-- ==== Sys2Proof/Word.lean ====
section
/-! DEFINITION. Word types: the widths spec/10_state.md and spec/30_encoding.md give the block's values.
Every value of the block is unsigned (rule R14). -/

namespace Sys2Proof

/-- A byte (R13). -/
abbrev Byte := BitVec 8

/-- A HOST address, 10 bits (R200). -/
abbrev Addr := BitVec 10

/-- A host bus transaction word `{WE, ADDR[9:0], DATA[7:0]}`, 19 bits (R310). -/
abbrev BusWord := BitVec 19

end Sys2Proof
end

