-- ==== Sys2Proof/Config.lean ====
section
/-! DEFINITION. What this hardware fixes (spec/00_scope.md R9 to R11, spec/10_state.md R101), the input
pins of one cycle (spec/40_cycle.md R401, R408), and the free values: what the spec leaves open and no
proof may see. -/

namespace Sys2Proof

/-- The inputs of one clock cycle (R401) with the random source's offer (R408). None of them is state of
the block (R144): the environment chooses every one of them in every cycle. -/
structure Pins where
  /-- synchronous reset (R800) -/
  rst : Bool
  /-- 1: this cycle carries a host write -/
  busWe : Bool
  busAddr : Addr
  busWdata : Byte
  /-- an inbound byte is present -/
  rxTvalid : Bool
  rxTdata : Byte
  rxTlast : Bool
  /-- the transport takes the presented byte this cycle -/
  txTready : Bool
  /-- one time-base tick occurs this cycle (R409) -/
  tick : Bool
  /-- the transport is unavailable -/
  chanErr : Bool
  /-- what the random source offers this cycle; R408's DRAW is this number brought into the cycle's
  range (log entry 6) -/
  draw : Nat
  deriving DecidableEq, Repr, Inhabited

/-- Pins on which nothing happens: a read of address 0, no byte, no tick, no error. Only
`State.withFetchWord` and tests use it. -/
def Pins.quiet : Pins where
  rst := false
  busWe := false
  busAddr := 0
  busWdata := 0
  rxTvalid := false
  rxTdata := 0
  rxTlast := false
  txTready := false
  tick := false
  chanErr := false
  draw := 0

namespace Config

/-- HDR_LEN (R9). -/
def hdrLen : Nat := 6

/-- MAX_PAYLOAD, TX_BUF_SIZE and RX_BUF_SIZE (R9, R11). -/
def maxPayload : Nat := 255

/-- MIN_TX_PAYLOAD (R9). -/
def minTxPayload : Nat := 1

/-- K_MAX, the cap on the backoff exponent (R9). -/
def kMax : Nat := 10

/-- ACK_SENTINEL, the bytes of "ACK" (R9, R10). -/
def ackSentinel : List Byte := [0x41#8, 0x43#8, 0x4B#8]

/-- The ID register (R101). -/
def idValue : Byte := 0x45#8

/-- The VERSION register (R101). -/
def versionValue : Byte := 0x01#8

/-- FREE VALUE (log entries 4, 5, 12): the byte at a storage place nothing has written since the reset
(or, for RX_BUF, the delivery) whose stamp is the first argument. The spec says "any value"
(spec/93_implementation_defined.md U1, U2, U6). -/
opaque freeByte (epoch place : Nat) : Byte

/-- FREE VALUE (log entry 1): the input pins of a cycle for which nothing was placed in the state's
queue; the environment may drive anything (R144). -/
opaque freePins (cycle : Nat) : Pins

end Config

end Sys2Proof
end

