-- ==== Sys2Proof/Syntax.lean ====
section
/-! DEFINITION. The block's operations: one constructor of `Instr` for each row of spec/opcode_table.json,
and the wire frame they speak of (spec/30_encoding.md R300, spec/41_frame_codec.md R450). -/

namespace Sys2Proof

/-- The six header bytes of a frame in wire order (R300): wire bytes 0 to 5. -/
structure Header where
  /-- wire byte 0, MCS -/
  mcs : Byte
  /-- wire byte 1, PAYLOAD_LENGTH -/
  len : Byte
  /-- wire byte 2, SEQUENCE_NUMBER -/
  seq : Byte
  /-- wire byte 3, DEST_ADDRESS -/
  dest : Byte
  /-- wire byte 4, SRC_ADDRESS -/
  src : Byte
  /-- wire byte 5, CHECKSUM -/
  cksum : Byte
  deriving DecidableEq, Repr, Inhabited

/-- The Frame record of R450: the header fields and a payload of any length. -/
structure Frame where
  hdr : Header
  payload : List Byte
  deriving DecidableEq, Repr, Inhabited

/-- The two kinds of outbound frame (R142 `h.eng_kind`): also what the arbiter grants (R603). -/
inductive EngKind where
  | data
  | ack
  deriving DecidableEq, Repr, Inhabited

/-- One constructor per row of spec/opcode_table.json. The bus rows carry the operand bits of the
19-bit word (R310); the inbound frame rows carry the frame's bytes (R323); the two outbound frame rows
take every field from the block's state (R303), so they carry none. -/
inductive Instr where
  /-- RD: bus read of a HOST address (R650). -/
  | rd (addr : Addr)
  /-- WR_CTRL (R652). -/
  | wrCtrl (v : Byte)
  /-- WR_STATUS, write-one-to-clear (R655). -/
  | wrStatus (v : Byte)
  /-- WR_IRQ_EN (R656). -/
  | wrIrqEn (v : Byte)
  /-- WR_NODE_ADDR (R653). -/
  | wrNodeAddr (v : Byte)
  /-- WR_TX_MCS (R654). -/
  | wrTxMcs (v : Byte)
  /-- WR_TX_DEST (R654). -/
  | wrTxDest (v : Byte)
  /-- WR_TX_LEN (R654). -/
  | wrTxLen (v : Byte)
  /-- WR_ACK_TIMEOUT_LO (R657). -/
  | wrAckTimeoutLo (v : Byte)
  /-- WR_ACK_TIMEOUT_HI (R657). -/
  | wrAckTimeoutHi (v : Byte)
  /-- WR_FRAME_TIME_LO (R657). -/
  | wrFrameTimeLo (v : Byte)
  /-- WR_FRAME_TIME_HI (R657). -/
  | wrFrameTimeHi (v : Byte)
  /-- WR_CNT_TX_DATA: clears the counter whatever v is (R658). -/
  | wrCntTxData (v : Byte)
  /-- WR_CNT_TX_ACK (R658). -/
  | wrCntTxAck (v : Byte)
  /-- WR_CNT_RX_DELIV (R658). -/
  | wrCntRxDeliv (v : Byte)
  /-- WR_CNT_RX_CKSUM (R658). -/
  | wrCntRxCksum (v : Byte)
  /-- WR_CNT_RX_TRUNC (R658). -/
  | wrCntRxTrunc (v : Byte)
  /-- WR_CNT_RX_FILT (R658). -/
  | wrCntRxFilt (v : Byte)
  /-- WR_CNT_RX_OVERRUN (R658). -/
  | wrCntRxOverrun (v : Byte)
  /-- WR_CNT_TIMEOUT (R658). -/
  | wrCntTimeout (v : Byte)
  /-- WR_CNT_RX_ACK (R658). -/
  | wrCntRxAck (v : Byte)
  /-- WR_TX_BUF: TX_BUF[idx] <- v at HOST address 0x100 + idx, idx = 0..254 (R654). -/
  | wrTxBuf (idx v : Byte)
  /-- NOP, command code 0x00 (R660). -/
  | nop
  /-- SEND, command code 0x01 (R501). -/
  | send
  /-- ABORT, command code 0x02 (R512). -/
  | abort
  /-- RX_RELEASE, command code 0x03 (R558). -/
  | rxRelease
  /-- RX_ACCEPT, command code 0x04 (R559). -/
  | rxAccept
  /-- SOFT_RESET, command code 0x0F (R662). -/
  | softReset
  /-- CMD_ILLEGAL: any other command code (R661). -/
  | cmdIllegal (code : Byte)
  /-- WR_IGNORED: a write to a read-only register, RX_BUF or a reserved address (R651, R322). -/
  | wrIgnored (addr : Addr) (v : Byte)
  /-- RX_TRUNC: an inbound frame of fewer than 6 bytes (R323). -/
  | rxTrunc (bytes : List Byte)
  /-- RX_BADSUM: an inbound frame whose checksum does not validate (R323). -/
  | rxBadsum (h : Header) (payload : List Byte)
  /-- RX_ACK: a valid inbound frame whose payload is the sentinel "ACK" (R323). -/
  | rxAck (h : Header)
  /-- RX_DATA: any other valid inbound frame (R323). -/
  | rxData (h : Header) (payload : List Byte)
  /-- TX_DATA_FRAME: the outbound data frame, loaded into the output engine (R605). -/
  | txDataFrame
  /-- TX_ACK_FRAME: the outbound acknowledgment frame, loaded into the output engine (R604). -/
  | txAckFrame
  deriving DecidableEq, Repr

end Sys2Proof
end

