-- ==== Sys2Proof/Machine/Codec.lean ====
section
/-! DEFINITION. The frame codec functions of spec/41_frame_codec.md: pure functions, no state. -/

namespace Sys2Proof.Machine

/-- The two errors of the codec functions (R453, R454). -/
inductive CodecError where
  /-- ENCODE: a field outside 0..255, or a payload outside 1..255 bytes (R453). -/
  | invalidFieldRange
  /-- DECODE: fewer than 6 bytes (R454). -/
  | truncatedHeader
  deriving DecidableEq, Repr

/-- The sum over the naturals of a byte list. -/
def sumBytes : List Byte → Nat
  | [] => 0
  | b :: bs => b.toNat + sumBytes bs

/-- CHECKSUM (R451): the five covered header bytes and the payload, modulo 256. -/
def checksum (m l s d a : Byte) (p : List Byte) : Byte :=
  BitVec.ofNat 8 (m.toNat + l.toNat + s.toNat + d.toNat + a.toNat + sumBytes p)

/-- The six header bytes in wire order (R300). -/
def headerBytes (h : Header) : List Byte := [h.mcs, h.len, h.seq, h.dest, h.src, h.cksum]

/-- Wire byte i of a header, i < 6 (R300). -/
def headerByte (h : Header) (i : Nat) : Byte :=
  match i with
  | 0 => h.mcs
  | 1 => h.len
  | 2 => h.seq
  | 3 => h.dest
  | 4 => h.src
  | _ => h.cksum

/-- A header with wire byte i replaced, i < 6 (R300). -/
def headerSet (h : Header) (i : Nat) (b : Byte) : Header :=
  match i with
  | 0 => { h with mcs := b }
  | 1 => { h with len := b }
  | 2 => { h with seq := b }
  | 3 => { h with dest := b }
  | 4 => { h with src := b }
  | _ => { h with cksum := b }

/-- The wire bytes of a Frame: header, then payload (R300). -/
def frameBytes (f : Frame) : List Byte := headerBytes f.hdr ++ f.payload

/-- ENCODE (R452), on naturals so that its range errors can be stated (R453). -/
def encodeFrame (mcs seq dest src : Nat) (payload : List Byte) : Except CodecError (List Byte) :=
  if mcs > 255 ∨ seq > 255 ∨ dest > 255 ∨ src > 255 then .error .invalidFieldRange
  else if payload.length < Config.minTxPayload ∨ payload.length > Config.maxPayload then
    .error .invalidFieldRange
  else
    let m := BitVec.ofNat 8 mcs
    let n := BitVec.ofNat 8 payload.length
    let s := BitVec.ofNat 8 seq
    let d := BitVec.ofNat 8 dest
    let a := BitVec.ofNat 8 src
    .ok ([m, n, s, d, a, checksum m n s d a payload] ++ payload)

/-- DECODE (R454): the header by position, the rest is the payload, of any length. -/
def decodeBytes (f : List Byte) : Except CodecError Frame :=
  match f with
  | m :: l :: s :: d :: a :: c :: payload => .ok ⟨⟨m, l, s, d, a, c⟩, payload⟩
  | _ => .error .truncatedHeader

/-- VALIDATE (R455): the sum uses the received length byte. -/
def validate (f : Frame) : Bool :=
  checksum f.hdr.mcs f.hdr.len f.hdr.seq f.hdr.dest f.hdr.src f.payload == f.hdr.cksum

/-- CHECK_DEST (R456): no broadcast, no wildcard. -/
def checkDest (f : Frame) (node : Byte) : Bool := f.hdr.dest == node

/-- IS_ACK (R457): only the payload decides. -/
def isAck (f : Frame) : Bool := f.payload == Config.ackSentinel

/-- BUILD_ACK (R458): the acknowledged frame's MCS and sequence number, its source as destination. -/
def buildAck (f : Frame) (node : Byte) : Except CodecError (List Byte) :=
  encodeFrame f.hdr.mcs.toNat f.hdr.seq.toNat f.hdr.src.toNat node.toNat Config.ackSentinel

end Sys2Proof.Machine
end

