-- ==== Sys2Proof/WellFormed.lean ====
section
/-! DEFINITION. Which terms of `Instr` stand for an operation of the spec: the operand ranges of
spec/opcode_table.json and spec/30_encoding.md R310 to R323. -/

namespace Sys2Proof

/-- The HOST addresses below 0x100 that a write row other than WR_IGNORED matches (R651, R104). -/
def writableRegs : List Nat :=
  [0x002, 0x003, 0x004, 0x005, 0x006, 0x008, 0x009, 0x00A, 0x00E, 0x00F, 0x010, 0x011,
   0x020, 0x021, 0x022, 0x023, 0x024, 0x025, 0x026, 0x027, 0x028]

/-- A write address that no write row but WR_IGNORED matches (R651, R322). -/
def isIgnoredAddr (a : Addr) : Bool :=
  !(writableRegs.contains a.toNat) && !(decide (0x100 ≤ a.toNat) && decide (a.toNat ≤ 0x1FE))

/-- The assigned command codes (R320). -/
def assignedCodes : List Nat := [0x00, 0x01, 0x02, 0x03, 0x04, 0x0F]

/-- An illegal command code (R321). -/
def isIllegalCode (c : Byte) : Bool := !(assignedCodes.contains c.toNat)

/-- The operand conditions of each row; a row whose every operand value is legal has none. -/
def wellFormed (i : Instr) : Bool :=
  match i with
  | .rd _ => true
  | .wrCtrl _ => true
  | .wrStatus _ => true
  | .wrIrqEn _ => true
  | .wrNodeAddr _ => true
  | .wrTxMcs _ => true
  | .wrTxDest _ => true
  | .wrTxLen _ => true
  | .wrAckTimeoutLo _ => true
  | .wrAckTimeoutHi _ => true
  | .wrFrameTimeLo _ => true
  | .wrFrameTimeHi _ => true
  | .wrCntTxData _ => true
  | .wrCntTxAck _ => true
  | .wrCntRxDeliv _ => true
  | .wrCntRxCksum _ => true
  | .wrCntRxTrunc _ => true
  | .wrCntRxFilt _ => true
  | .wrCntRxOverrun _ => true
  | .wrCntTimeout _ => true
  | .wrCntRxAck _ => true
  | .wrTxBuf idx _ => idx != 0xFF#8
  | .nop => true
  | .send => true
  | .abort => true
  | .rxRelease => true
  | .rxAccept => true
  | .softReset => true
  | .cmdIllegal c => isIllegalCode c
  | .wrIgnored a _ => isIgnoredAddr a
  | .rxTrunc f => decide (f.length < Config.hdrLen)
  | .rxBadsum h p => !(Machine.validate ⟨h, p⟩)
  | .rxAck h => Machine.validate ⟨h, Config.ackSentinel⟩
  | .rxData h p => Machine.validate ⟨h, p⟩ && !(Machine.isAck ⟨h, p⟩)
  | .txDataFrame => true
  | .txAckFrame => true

end Sys2Proof
end

