-- ==== Sys2Proof/Decode.lean ====
section
/-! DEFINITION. The decoder and the encoder: the 19-bit bus word (spec/30_encoding.md R310, R311, R320
to R322), the inbound frame classes (R323), and the arbiter's grant, which is all that selects an
outbound frame (spec/44_tx_port.md R603). -/

namespace Sys2Proof

/-- What the block's three command sources hand it: a word on the register bus, a complete frame on
the RX port, a grant of the transmit arbiter. -/
inductive Encoding where
  | bus (w : BusWord)
  | frame (bytes : List Byte)
  | grant (k : EngKind)
  deriving DecidableEq, Repr

/-- Why the decoder refuses raw bits. -/
inductive DecodeReject where
  /-- A bus word has 19 bits (R310); a bit above bit 18 is set. -/
  | busWordOver19Bits
  /-- A frame is a whole number of bytes (R305). -/
  | frameNotWholeBytes
  deriving DecidableEq, Repr

/-- The bus word of a transaction (R310): `T = (WE << 18) | (ADDR << 8) | DATA`. -/
def busWord (we : Bool) (a : Addr) (v : Byte) : BusWord :=
  ((BitVec.ofBool we).setWidth 19 <<< 18) ||| (a.setWidth 19 <<< 8) ||| v.setWidth 19

/-- The fields of a bus word (R310). -/
def wordWe (w : BusWord) : Bool := w.getLsbD 18
def wordAddr (w : BusWord) : Addr := w.extractLsb' 8 10
def wordData (w : BusWord) : Byte := w.extractLsb' 0 8

/-- The command codes (R320, R659); every other code is illegal (R321). -/
def decodeCmd (c : Byte) : Instr :=
  match c.toNat with
  | 0x00 => .nop
  | 0x01 => .send
  | 0x02 => .abort
  | 0x03 => .rxRelease
  | 0x04 => .rxAccept
  | 0x0F => .softReset
  | _ => .cmdIllegal c

/-- A host write by its address (R651, R104, R201); unassigned addresses are ignored (R322). -/
def decodeWrite (a : Addr) (v : Byte) : Instr :=
  match a.toNat with
  | 0x002 => .wrCtrl v
  | 0x003 => decodeCmd v
  | 0x004 => .wrStatus v
  | 0x005 => .wrIrqEn v
  | 0x006 => .wrNodeAddr v
  | 0x008 => .wrTxMcs v
  | 0x009 => .wrTxDest v
  | 0x00A => .wrTxLen v
  | 0x00E => .wrAckTimeoutLo v
  | 0x00F => .wrAckTimeoutHi v
  | 0x010 => .wrFrameTimeLo v
  | 0x011 => .wrFrameTimeHi v
  | 0x020 => .wrCntTxData v
  | 0x021 => .wrCntTxAck v
  | 0x022 => .wrCntRxDeliv v
  | 0x023 => .wrCntRxCksum v
  | 0x024 => .wrCntRxTrunc v
  | 0x025 => .wrCntRxFilt v
  | 0x026 => .wrCntRxOverrun v
  | 0x027 => .wrCntTimeout v
  | 0x028 => .wrCntRxAck v
  | n => if 0x100 ≤ n ∧ n ≤ 0x1FE then .wrTxBuf (BitVec.ofNat 8 (n - 0x100)) v else .wrIgnored a v

/-- A bus word: WE selects read or write. In a read the DATA bits select nothing (log entry 7). -/
def decodeBus (w : BusWord) : Instr :=
  if wordWe w then decodeWrite (wordAddr w) (wordData w) else .rd (wordAddr w)

/-- The class of an inbound frame (R323): the first that applies, in the rule's order. -/
def decodeFrame (f : List Byte) : Instr :=
  match Machine.decodeBytes f with
  | .error _ => .rxTrunc f
  | .ok fr =>
    if Machine.validate fr = false then .rxBadsum fr.hdr fr.payload
    else if Machine.isAck fr then .rxAck fr.hdr
    else .rxData fr.hdr fr.payload

/-- The outbound frame a grant of the arbiter loads (R603). -/
def decodeGrant (k : EngKind) : Instr :=
  match k with
  | .data => .txDataFrame
  | .ack => .txAckFrame

/-- The decoder, total: every bus word, every byte string and every grant is one operation. -/
def decode (e : Encoding) : Instr :=
  match e with
  | .bus w => decodeBus w
  | .frame f => decodeFrame f
  | .grant k => decodeGrant k

/-- The encoder, from the encoding tables R310, R320 and R300. -/
def encode (i : Instr) : Encoding :=
  match i with
  | .rd a => .bus (busWord false a 0)
  | .wrCtrl v => .bus (busWord true 0x002#10 v)
  | .wrStatus v => .bus (busWord true 0x004#10 v)
  | .wrIrqEn v => .bus (busWord true 0x005#10 v)
  | .wrNodeAddr v => .bus (busWord true 0x006#10 v)
  | .wrTxMcs v => .bus (busWord true 0x008#10 v)
  | .wrTxDest v => .bus (busWord true 0x009#10 v)
  | .wrTxLen v => .bus (busWord true 0x00A#10 v)
  | .wrAckTimeoutLo v => .bus (busWord true 0x00E#10 v)
  | .wrAckTimeoutHi v => .bus (busWord true 0x00F#10 v)
  | .wrFrameTimeLo v => .bus (busWord true 0x010#10 v)
  | .wrFrameTimeHi v => .bus (busWord true 0x011#10 v)
  | .wrCntTxData v => .bus (busWord true 0x020#10 v)
  | .wrCntTxAck v => .bus (busWord true 0x021#10 v)
  | .wrCntRxDeliv v => .bus (busWord true 0x022#10 v)
  | .wrCntRxCksum v => .bus (busWord true 0x023#10 v)
  | .wrCntRxTrunc v => .bus (busWord true 0x024#10 v)
  | .wrCntRxFilt v => .bus (busWord true 0x025#10 v)
  | .wrCntRxOverrun v => .bus (busWord true 0x026#10 v)
  | .wrCntTimeout v => .bus (busWord true 0x027#10 v)
  | .wrCntRxAck v => .bus (busWord true 0x028#10 v)
  | .wrTxBuf idx v => .bus (busWord true (0x100#10 ||| idx.setWidth 10) v)
  | .nop => .bus (busWord true 0x003#10 0x00#8)
  | .send => .bus (busWord true 0x003#10 0x01#8)
  | .abort => .bus (busWord true 0x003#10 0x02#8)
  | .rxRelease => .bus (busWord true 0x003#10 0x03#8)
  | .rxAccept => .bus (busWord true 0x003#10 0x04#8)
  | .softReset => .bus (busWord true 0x003#10 0x0F#8)
  | .cmdIllegal c => .bus (busWord true 0x003#10 c)
  | .wrIgnored a v => .bus (busWord true a v)
  | .rxTrunc f => .frame f
  | .rxBadsum h p => .frame (Machine.frameBytes ⟨h, p⟩)
  | .rxAck h => .frame (Machine.frameBytes ⟨h, Config.ackSentinel⟩)
  | .rxData h p => .frame (Machine.frameBytes ⟨h, p⟩)
  | .txDataFrame => .grant .data
  | .txAckFrame => .grant .ack

/-- The match and the mask of a bus row, from spec/opcode_table.json; a frame row has none. Statements and laws
hold the decoder and the encoder against it; neither uses it. -/
def tableRow (i : Instr) : Option (BusWord × BusWord) :=
  match i with
  | .rd _ => some (0x00000#19, 0x40000#19)
  | .wrCtrl _ => some (0x40200#19, 0x7FF00#19)
  | .wrStatus _ => some (0x40400#19, 0x7FF00#19)
  | .wrIrqEn _ => some (0x40500#19, 0x7FF00#19)
  | .wrNodeAddr _ => some (0x40600#19, 0x7FF00#19)
  | .wrTxMcs _ => some (0x40800#19, 0x7FF00#19)
  | .wrTxDest _ => some (0x40900#19, 0x7FF00#19)
  | .wrTxLen _ => some (0x40A00#19, 0x7FF00#19)
  | .wrAckTimeoutLo _ => some (0x40E00#19, 0x7FF00#19)
  | .wrAckTimeoutHi _ => some (0x40F00#19, 0x7FF00#19)
  | .wrFrameTimeLo _ => some (0x41000#19, 0x7FF00#19)
  | .wrFrameTimeHi _ => some (0x41100#19, 0x7FF00#19)
  | .wrCntTxData _ => some (0x42000#19, 0x7FF00#19)
  | .wrCntTxAck _ => some (0x42100#19, 0x7FF00#19)
  | .wrCntRxDeliv _ => some (0x42200#19, 0x7FF00#19)
  | .wrCntRxCksum _ => some (0x42300#19, 0x7FF00#19)
  | .wrCntRxTrunc _ => some (0x42400#19, 0x7FF00#19)
  | .wrCntRxFilt _ => some (0x42500#19, 0x7FF00#19)
  | .wrCntRxOverrun _ => some (0x42600#19, 0x7FF00#19)
  | .wrCntTimeout _ => some (0x42700#19, 0x7FF00#19)
  | .wrCntRxAck _ => some (0x42800#19, 0x7FF00#19)
  | .wrTxBuf _ _ => some (0x50000#19, 0x70000#19)
  | .nop => some (0x40300#19, 0x7FFFF#19)
  | .send => some (0x40301#19, 0x7FFFF#19)
  | .abort => some (0x40302#19, 0x7FFFF#19)
  | .rxRelease => some (0x40303#19, 0x7FFFF#19)
  | .rxAccept => some (0x40304#19, 0x7FFFF#19)
  | .softReset => some (0x4030F#19, 0x7FFFF#19)
  | .cmdIllegal _ => some (0x40300#19, 0x7FF00#19)
  | .wrIgnored _ _ => some (0x40000#19, 0x40000#19)
  | .rxTrunc _ => none
  | .rxBadsum _ _ => none
  | .rxAck _ => none
  | .rxData _ _ => none
  | .txDataFrame => none
  | .txAckFrame => none

/-- The bytes of a number, the least significant first: wire byte 0 is bits 7..0 (R300). -/
def bytesOfNat (w : Nat) : Nat → List Byte
  | 0 => []
  | n + 1 => BitVec.ofNat 8 w :: bytesOfNat (w / 256) n

/-- The encoding that nbits raw bits stand for: up to four bytes they are a bus word (19 bits in three
bytes), above that a frame, wire byte 0 lowest (log entry 13). -/
def rawEncoding (nbits w : Nat) : Except DecodeReject Encoding :=
  if nbits ≤ 32 then
    if w < 2 ^ 19 then .ok (.bus (BitVec.ofNat 19 w)) else .error .busWordOver19Bits
  else if nbits % 8 = 0 then .ok (.frame (bytesOfNat w (nbits / 8)))
  else .error .frameNotWholeBytes

/-- The instruction of an opcode-table word; none where the decoder refuses the bits. -/
def decodeTableWord (nbits w : Nat) : Option Instr :=
  match rawEncoding nbits w with
  | .ok e => some (decode e)
  | .error _ => none

end Sys2Proof
end

