-- ==== Sys2Proof/Machine/State.lean ====
section
/-! DEFINITION. The state of the block as plain data: everything spec/10_state.md gives it, the
cycle-local values of spec/40_cycle.md R403 and R406, and the model's own fields (INVENTORY.md, State). -/

namespace Sys2Proof.Machine

/-- The sender states of R500. -/
inductive SenderState where
  | idle
  | sending
  | awaitingAck
  | delivered
  | backingOff
  deriving DecidableEq, Repr, Inhabited

/-- The five header bytes latched at SEND, `h.hdr_l[0..4]` (R140). -/
structure LatchedHeader where
  mcs : Byte
  len : Byte
  seq : Byte
  dest : Byte
  src : Byte
  deriving DecidableEq, Repr, Inhabited

/-- Host-visible registers that hold state (R104 to R121). -/
structure Regs where
  /-- CTRL (R105): bit 0 ENABLE, bit 1 AUTO_ACK, bit 2 STRICT_LEN, bits 7:3 reserved -/
  ctrl : Byte
  /-- STATUS (R107), sticky event bits -/
  status : Byte
  /-- IRQ_EN (R108) -/
  irqEn : Byte
  /-- NODE_ADDR (R109) -/
  nodeAddr : Byte
  /-- SEQ (R110) -/
  seq : Byte
  /-- TX_MCS (R111) -/
  txMcs : Byte
  /-- TX_DEST (R111) -/
  txDest : Byte
  /-- TX_LEN (R111) -/
  txLen : Byte
  /-- TX_FAIL_CODE (R114, R702) -/
  txFailCode : Byte
  /-- ACK_TIMEOUT, low byte (R115) -/
  ackTimeoutLo : Byte
  /-- ACK_TIMEOUT, high byte (R115) -/
  ackTimeoutHi : Byte
  /-- FRAME_TIME, low byte (R116) -/
  frameTimeLo : Byte
  /-- FRAME_TIME, high byte (R116) -/
  frameTimeHi : Byte
  /-- RX_STAT.RX_VALID (R117) -/
  rxValid : Bool
  /-- RX_STAT.RX_ACKED (R117) -/
  rxAcked : Bool
  /-- RX_STAT.RX_LENMM (R117) -/
  rxLenmm : Bool
  /-- RX_MCS, RX_LEN, RX_SEQ, RX_DEST, RX_SRC, RX_CKSUM (R118) -/
  rxHdr : Header
  /-- RX_COUNT (R119) -/
  rxCount : Byte
  /-- RX_DROP_CODE (R120, R703) -/
  rxDropCode : Byte
  /-- CMD_ERR_CODE (R121, R704) -/
  cmdErrCode : Byte
  deriving DecidableEq, Repr, Inhabited

/-- The nine statistics counters, 8 bits each, wrapping (R123). -/
structure Counters where
  txData : Byte
  txAck : Byte
  rxDeliv : Byte
  rxCksum : Byte
  rxTrunc : Byte
  rxFilt : Byte
  rxOverrun : Byte
  timeout : Byte
  rxAck : Byte
  deriving DecidableEq, Repr, Inhabited

/-- Sender hidden state (R140). -/
structure Sender where
  st : SenderState
  hdrL : LatchedHeader
  csum : Byte
  prepIdx : Byte
  frameReady : Bool
  started : Bool
  abortPend : Bool
  attempt : Byte
  elapsed : BitVec 16
  remaining : BitVec 26
  deriving DecidableEq, Repr, Inhabited

/-- The acknowledgment slot, one entry deep (R141). -/
structure AckSlot where
  pend : Bool
  mcs : Byte
  seq : Byte
  dest : Byte
  deriving DecidableEq, Repr, Inhabited

/-- The output engine (R142). -/
structure Engine where
  busy : Bool
  kind : EngKind
  hdr : Header
  plen : Byte
  idx : BitVec 9
  deriving DecidableEq, Repr, Inhabited

/-- A byte storage: (place, byte) pairs, places strictly rising; a place not listed has not been written
(its content is a free value, `Config.freeByte`). -/
abbrev Memory := List Host.Cell

/-- The receive assembler (R143). `stage` is `h.rx_stage`, places 0 to 254. -/
structure Assembler where
  n : BitVec 9
  hdr : Header
  stage : Memory
  sum : Byte
  discard : Bool
  deriving DecidableEq, Repr, Inhabited

/-- The cycle-local values (R15, R403, R406): cleared when a cycle begins and when it ends. -/
structure CycleLocals where
  /-- `setmask`: the STATUS bits this cycle's events set (R406) -/
  setmask : Byte
  /-- `w1c`: the STATUS bits this cycle's host write clears (R406) -/
  w1c : Byte
  /-- `tx_done` (R602) -/
  txDone : Option EngKind
  /-- `ack_match` (R505) -/
  ackMatch : Bool
  deriving DecidableEq, Repr, Inhabited

/-- What the output ports show in one cycle (R401, R402, R411). -/
structure Ports where
  txTvalid : Bool
  txTdata : Byte
  txTlast : Bool
  irq : Bool
  busRdata : Byte
  deriving DecidableEq, Repr, Inhabited

/-- The whole machine. The first seven fields and `mem` are the spec's state; `cyc` holds its cycle-local
values; the last five are the model's own (log entries 1, 2, 4, 5). -/
structure State where
  regs : Regs
  cnt : Counters
  snd : Sender
  ack : AckSlot
  eng : Engine
  asm : Assembler
  /-- TX_BUF and RX_BUF at their HOST addresses, 0x100 to 0x1FE and 0x200 to 0x2FE (R201) -/
  mem : Memory
  cyc : CycleLocals
  /-- MODEL: the input pins of the coming cycles, the next one first (R144 inputs; log entry 1) -/
  inputs : List Pins
  /-- MODEL: cycles run, the index of `Config.freePins` (log entry 2) -/
  cycle : Nat
  /-- MODEL: the stamp of the last reset (its cycle count plus 1), the index of the free bytes of TX_BUF and
  the staging storage (log entry 4) -/
  epoch : Nat
  /-- MODEL: the stamp of the last reset or delivery, the index of the free bytes of RX_BUF (log entry 5) -/
  rxEpoch : Nat
  /-- MODEL: the output ports in the last cycle run (log entry 2) -/
  out : Ports
  deriving DecidableEq, Repr

/-- No fault exists: the block has no fault state, and every state has a defined next state
(spec/93_implementation_defined.md, section 2; R707). The type is closed and empty, which is safe: no run
of the model can stop. -/
inductive Fault where
  deriving DecidableEq, Repr

/-- Why the model has no next state for an instruction. -/
inductive Refusal where
  /-- Raised by `exec` alone, for an instruction with no meaning yet. Safe: nothing can be proved of the
  instruction. No arm of `exec` raises it. -/
  | notModelled (mnemonic : String)
  deriving DecidableEq, Repr

/-- What a meaning answers. -/
abbrev Result := Host.Outcome State Fault Refusal

/-- The registers at reset (R801, R104). -/
def Regs.reset : Regs where
  ctrl := 0x02#8
  status := 0x00#8
  irqEn := 0x00#8
  nodeAddr := 0x00#8
  seq := 0x00#8
  txMcs := 0x00#8
  txDest := 0x00#8
  txLen := 0x00#8
  txFailCode := 0x00#8
  ackTimeoutLo := 0x32#8
  ackTimeoutHi := 0x00#8
  frameTimeLo := 0x0A#8
  frameTimeHi := 0x00#8
  rxValid := false
  rxAcked := false
  rxLenmm := false
  rxHdr := ⟨0, 0, 0, 0, 0, 0⟩
  rxCount := 0x00#8
  rxDropCode := 0x00#8
  cmdErrCode := 0x00#8

/-- The counters at reset (R801). -/
def Counters.reset : Counters := ⟨0, 0, 0, 0, 0, 0, 0, 0, 0⟩

/-- The sender at reset (R140, R801). -/
def Sender.reset : Sender where
  st := .idle
  hdrL := ⟨0, 0, 0, 0, 0⟩
  csum := 0
  prepIdx := 0
  frameReady := false
  started := false
  abortPend := false
  attempt := 0
  elapsed := 0
  remaining := 0

/-- No event, no clear, nothing done, no match: the cycle-local values outside a cycle. -/
def CycleLocals.none : CycleLocals := ⟨0, 0, Option.none, false⟩

/-- The machine right after reset (R801): buffers and staging storage with nothing listed, no pins placed. -/
def State.reset : State where
  regs := Regs.reset
  cnt := Counters.reset
  snd := Sender.reset
  ack := ⟨false, 0, 0, 0⟩
  eng := ⟨false, .data, ⟨0, 0, 0, 0, 0, 0⟩, 0, 0⟩
  asm := ⟨0, ⟨0, 0, 0, 0, 0, 0⟩, [], 0, false⟩
  mem := []
  cyc := CycleLocals.none
  inputs := []
  cycle := 0
  epoch := 0
  rxEpoch := 0
  out := ⟨false, 0, false, false, 0⟩

end Sys2Proof.Machine
end

