-- ==== Sys2Proof/Machine/Flags.lean ====
section
/-! DEFINITION. Flags: the STATUS bits of the events (spec/60_exceptions.md R701), the codes of the code
registers (R702 to R704), the CTRL fields (spec/10_state.md R105), the views TX_STATE and RX_STAT (R112,
R117) and the interrupt line (R705). -/

namespace Sys2Proof.Machine

/-- A one-bit field at position i of a byte. -/
def bitAt (b : Bool) (i : Nat) : Byte := if b then BitVec.ofNat 8 (2 ^ i) else 0#8

/-- CTRL.ENABLE (R105, bit 0). -/
def State.enable (s : State) : Bool := s.regs.ctrl.getLsbD 0

/-- CTRL.AUTO_ACK (R105, bit 1). -/
def State.autoAck (s : State) : Bool := s.regs.ctrl.getLsbD 1

/-- CTRL.STRICT_LEN (R105, bit 2). -/
def State.strictLen (s : State) : Bool := s.regs.ctrl.getLsbD 2

/-- The events (R701). -/
inductive Event where
  | txDone
  | txFail
  | rxDeliv
  | rxDrop
  | ackTimeout
  | cmdError
  | xportError
  | ackSent
  deriving DecidableEq, Repr

/-- The STATUS bit of an event, as a mask (R701, R107). -/
def Event.mask (e : Event) : Byte :=
  match e with
  | .txDone => 0x01#8
  | .txFail => 0x02#8
  | .rxDeliv => 0x04#8
  | .rxDrop => 0x08#8
  | .ackTimeout => 0x10#8
  | .cmdError => 0x20#8
  | .xportError => 0x40#8
  | .ackSent => 0x80#8

/-- Causes of TX_FAIL (R702). -/
inductive FailCause where
  | invalidFieldRange
  | transportUnavailable
  | aborted
  deriving DecidableEq, Repr

/-- TX_FAIL_CODE values (R702). -/
def FailCause.code (c : FailCause) : Byte :=
  match c with
  | .invalidFieldRange => 1#8
  | .transportUnavailable => 2#8
  | .aborted => 3#8

/-- Causes of RX_DROP (R703). -/
inductive DropCause where
  | truncatedHeader
  | checksumMismatch
  | destMismatch
  | oversize
  | lengthMismatch
  | rxOverrun
  deriving DecidableEq, Repr

/-- RX_DROP_CODE values (R703). -/
def DropCause.code (c : DropCause) : Byte :=
  match c with
  | .truncatedHeader => 1#8
  | .checksumMismatch => 2#8
  | .destMismatch => 3#8
  | .oversize => 4#8
  | .lengthMismatch => 5#8
  | .rxOverrun => 6#8

/-- Causes of CMD_ERR (R704). -/
inductive CmdCause where
  | illegalCommand
  | busy
  | lockedWrite
  | disabled
  | noFrame
  deriving DecidableEq, Repr

/-- CMD_ERR_CODE values (R704). -/
def CmdCause.code (c : CmdCause) : Byte :=
  match c with
  | .illegalCommand => 1#8
  | .busy => 2#8
  | .lockedWrite => 3#8
  | .disabled => 4#8
  | .noFrame => 5#8

/-- The code of a sender state in TX_STATE[2:0] (R112, R500, R650). -/
def SenderState.code (st : SenderState) : Byte :=
  match st with
  | .idle => 0#8
  | .sending => 1#8
  | .awaitingAck => 2#8
  | .delivered => 3#8
  | .backingOff => 4#8

/-- TX_STATE (R112, R650). -/
def State.txStateByte (s : State) : Byte :=
  s.snd.st.code ||| bitAt s.snd.frameReady 3 ||| bitAt s.snd.abortPend 4 ||| bitAt s.snd.started 5

/-- RX_STAT (R117, R650). -/
def State.rxStatByte (s : State) : Byte :=
  bitAt s.regs.rxValid 0 ||| bitAt s.regs.rxAcked 1 ||| bitAt s.regs.rxLenmm 2 |||
    bitAt s.ack.pend 3 ||| bitAt (decide (0 < s.asm.n.toNat)) 4 ||| bitAt s.asm.discard 5 |||
    bitAt s.eng.busy 6

/-- The interrupt line (R705): a level. -/
def State.irq (s : State) : Bool := (s.regs.status &&& s.regs.irqEn) != 0#8

end Sys2Proof.Machine
end

