-- ==== Sys2Proof/Machine/Ops.lean ====
section
/-! DEFINITION. The named operations over memory, registers and events that the meanings share. Raising an
event (spec/60_exceptions.md R700), which is the block's only exception primitive, and its return (R708)
stand here. -/

namespace Sys2Proof.Machine

/-! ### Byte storage -/

/-- The byte listed at a place, if one is. -/
def memGet? (m : Memory) (a : Nat) : Option Byte :=
  match m with
  | [] => none
  | (k, b) :: rest => if k = a then some b else memGet? rest a

/-- Store a byte, keeping the places strictly rising. -/
def memSet (m : Memory) (a : Nat) (v : Byte) : Memory :=
  match m with
  | [] => [(a, v)]
  | (k, b) :: rest =>
    if a < k then (a, v) :: (k, b) :: rest
    else if a = k then (a, v) :: rest
    else (k, b) :: memSet rest a v

/-- Store bytes at consecutive places. -/
def memSetList (m : Memory) (a : Nat) (bs : List Byte) : Memory :=
  match bs with
  | [] => m
  | b :: rest => memSetList (memSet m a b) (a + 1) rest

/-- Drop what is listed at place lo and above. -/
def memDropFrom (m : Memory) (lo : Nat) : Memory := m.filter fun c => decide (c.1 < lo)

/-- The canonical form: places strictly rising, every one of them at least lo and below hi. -/
def memSorted (m : Memory) (lo hi : Nat) : Bool :=
  match m with
  | [] => true
  | (k, _) :: rest => decide (lo ≤ k) && decide (k < hi) && memSorted rest (k + 1) hi

/-- Memory.wf: canonical form of a storage. An unlisted place holds no written byte, so no entry can equal
what an unlisted place reads as. -/
def Memory.wf (m : Memory) : Bool := memSorted m 0 0x400

/-! ### Buffers (R130, R131, R143, R201) -/

/-- HOST address of TX_BUF[0] (R130). -/
def txBufBase : Nat := 0x100

/-- HOST address of RX_BUF[0] (R131). -/
def rxBufBase : Nat := 0x200

/-- The place numbers of the free bytes of the staging storage, above every HOST address. -/
def stageBase : Nat := 0x400

/-- TX_BUF[i]: the written byte, else a free value (R130; U1; log entry 4). -/
def State.txBufByte (s : State) (i : Nat) : Byte :=
  match memGet? s.mem (txBufBase + i) with
  | some b => b
  | none => Config.freeByte s.epoch (txBufBase + i)

/-- RX_BUF[i]: the delivered byte, else a free value (R131; U2; log entry 5). -/
def State.rxBufByte (s : State) (i : Nat) : Byte :=
  match memGet? s.mem (rxBufBase + i) with
  | some b => b
  | none => Config.freeByte s.rxEpoch (rxBufBase + i)

/-- h.rx_stage[i]: the staged byte, else a free value (R143; U6; log entry 4). -/
def State.stageByte (s : State) (i : Nat) : Byte :=
  match memGet? s.asm.stage i with
  | some b => b
  | none => Config.freeByte s.epoch (stageBase + i)

/-- TX_BUF[0 .. n). -/
def State.txPayload (s : State) (n : Nat) : List Byte := (List.range n).map s.txBufByte

/-- h.rx_stage[0 .. n). -/
def State.stagePayload (s : State) (n : Nat) : List Byte := (List.range n).map s.stageByte

/-- TX_BUF[i] <- v (R654). -/
def setTxBuf (s : State) (i : Nat) (v : Byte) : State :=
  { s with mem := memSet s.mem (txBufBase + i) v }

/-! ### The cycle's inputs -/

/-- The input pins of the current cycle: the first placed, else free (R144; log entry 1). -/
def State.now (s : State) : Pins :=
  match s.inputs with
  | p :: _ => p
  | [] => Config.freePins s.cycle

/-! ### Events: the exception primitive and its return -/

/-- raise Event (R700): OR the event's STATUS bit into the cycle's set mask, and nothing else; the raising
rule writes the code register. -/
def raise (e : Event) (s : State) : State :=
  { s with cyc := { s.cyc with setmask := s.cyc.setmask ||| e.mask } }

/-- The return (R708, R655): the host's write-one-to-clear mask for this cycle (R406). -/
def clearEvents (v : Byte) (s : State) : State :=
  { s with cyc := { s.cyc with w1c := v } }

/-- STATUS at the end of the cycle (R406): an event of the cycle wins over its clear. -/
def finalStatus (status setmask w1c : Byte) : Byte := (status &&& ~~~w1c) ||| setmask

/-- CMD_ERR(code) (R663). -/
def cmdErr (c : CmdCause) (s : State) : State :=
  raise .cmdError { s with regs := { s.regs with cmdErrCode := c.code } }

/-- TX_FAIL_CODE <- code and the TxFail event (R501, R500). -/
def txFail (c : FailCause) (s : State) : State :=
  raise .txFail { s with regs := { s.regs with txFailCode := c.code } }

/-! ### Sender helper actions -/

/-- The sender part of GO_IDLE (R500): hdr_l, csum_l and attempt are kept. -/
def Sender.goIdle (d : Sender) : Sender :=
  { d with
    st := .idle
    started := false
    abortPend := false
    frameReady := false
    elapsed := 0
    remaining := 0 }

/-- GO_IDLE() (R500). -/
def goIdle (s : State) : State := { s with snd := s.snd.goIdle }

/-- FAIL(code) (R500). -/
def fail (c : FailCause) (s : State) : State := txFail c (goIdle s)

/-- The engine streams a data frame of the current attempt (R512). -/
def State.streamingData (s : State) : Bool :=
  s.snd.started && s.eng.busy && s.eng.kind == .data

/-- The ABORT pseudocode (R512). -/
def abortSend (s : State) : State :=
  match s.snd.st with
  | .idle => s
  | .delivered => s
  | .sending =>
    if s.streamingData then { s with snd := { s.snd with abortPend := true } }
    else fail .aborted s
  | .awaitingAck => fail .aborted s
  | .backingOff => fail .aborted s

/-- DISABLE() (R513): empty the ack slot, then abort. -/
def disable (s : State) : State :=
  abortSend { s with ack := { s.ack with pend := false } }

/-! ### Receiver helper actions -/

/-- The counter a drop increments (R554, R123). -/
def Counters.countDrop (k : Counters) (c : DropCause) : Counters :=
  match c with
  | .truncatedHeader => { k with rxTrunc := k.rxTrunc + 1#8 }
  | .checksumMismatch => { k with rxCksum := k.rxCksum + 1#8 }
  | .destMismatch => { k with rxFilt := k.rxFilt + 1#8 }
  | .oversize => { k with rxFilt := k.rxFilt + 1#8 }
  | .lengthMismatch => { k with rxFilt := k.rxFilt + 1#8 }
  | .rxOverrun => { k with rxOverrun := k.rxOverrun + 1#8 }

/-- DROP(code) (R554). -/
def drop (c : DropCause) (s : State) : State :=
  raise .rxDrop
    { s with
      regs := { s.regs with rxDropCode := c.code }
      cnt := s.cnt.countDrop c }

/-- POST_ACK(m, s, d) (R560). -/
def postAck (m q d : Byte) (s : State) : State :=
  { s with ack := ⟨true, m, q, d⟩ }

/-- DELIVER(n) (R556): the header registers, RX_COUNT, RX_BUF[0..n), the held bits, the counter, the event
and, with AUTO_ACK, the ack. RX_BUF at n and above becomes unspecified again (R131, U2; log entry 5). -/
def deliver (h : Header) (p : List Byte) (s : State) : State :=
  let s1 : State :=
    { s with
      regs :=
        { s.regs with
          rxHdr := h
          rxCount := BitVec.ofNat 8 p.length
          rxValid := true
          rxAcked := s.autoAck
          rxLenmm := decide (h.len.toNat ≠ p.length) }
      cnt := { s.cnt with rxDeliv := s.cnt.rxDeliv + 1#8 }
      mem := memSetList (memDropFrom s.mem rxBufBase) rxBufBase p
      rxEpoch := s.cycle + 1 }
  let s2 := raise .rxDeliv s1
  if s.autoAck then postAck h.mcs h.seq h.src s2 else s2

/-- RX_VALID <- 0; RX_ACKED <- 0 (R558, R559). -/
def releaseFrame (s : State) : State :=
  { s with regs := { s.regs with rxValid := false, rxAcked := false } }

/-! ### Reset -/

/-- The reset state of R801, in a run: every field of the block at its reset value; the buffers unspecified
anew (the stamps take this cycle); the placed inputs, the cycle count and the port sample are not the block's. -/
def hwReset (s : State) : State :=
  { State.reset with
    inputs := s.inputs
    cycle := s.cycle
    epoch := s.cycle + 1
    rxEpoch := s.cycle + 1
    out := s.out }

/-! ### Outcomes -/

/-- Run f on the next state; a fault or a refusal stands. -/
def andThen (r : Result) (f : State → Result) : Result :=
  match r with
  | .next s => f s
  | .fault e => .fault e
  | .refused e => .refused e

/-- The next state of a result, if it has one. -/
def nextState? (r : Result) : Option State :=
  match r with
  | .next s => some s
  | .fault _ => none
  | .refused _ => none

end Sys2Proof.Machine
end

