-- ==== Sys2Proof/Machine/Operands.lean ====
section
/-! DEFINITION. Operand forms: what a HOST address reads as (spec/45_host_commands.md R650), the effective
timing values (spec/42_sender.md R515), the backoff bound and draw (R508, spec/40_cycle.md R408), and the
byte the output engine presents (spec/44_tx_port.md R601). -/

namespace Sys2Proof.Machine

/-- A LO/HI byte pair as a number (R115, R116, R205). -/
def pairValue (lo hi : Byte) : Nat := hi.toNat * 256 + lo.toNat

/-- ACK_TIMEOUT in ticks (R115). -/
def State.ackTimeout (s : State) : Nat := pairValue s.regs.ackTimeoutLo s.regs.ackTimeoutHi

/-- TO_eff (R515). -/
def State.toEff (s : State) : Nat := max s.ackTimeout 1

/-- FRAME_TIME in ticks (R116). -/
def State.frameTime (s : State) : Nat := pairValue s.regs.frameTimeLo s.regs.frameTimeHi

/-- FT_eff (R515). -/
def State.ftEff (s : State) : Nat := max s.frameTime 1

/-- FT(mcs): FT_eff for every mcs (R116, R515). -/
def State.frameTransmissionTime (s : State) (_mcs : Byte) : Nat := s.ftEff

/-- The backoff bound for attempt count a and frame time ft (R508). -/
def backoffBound (a ft : Nat) : Nat := (2 ^ min a Config.kMax - 1) * ft

/-- The bound at this cycle's timeout (R507). -/
def State.drawBound (s : State) : Nat :=
  backoffBound s.snd.attempt.toNat (s.frameTransmissionTime s.snd.hdrL.mcs)

/-- D, the legal draw of a timeout cycle: 0 ≤ D < bound (R408, R508). What the random source offers is
brought into the range; every legal draw stands as it is (log entry 6). -/
def State.drawTicks (s : State) : Nat := s.now.draw % s.drawBound

/-- sat_8(v + 1) (R507, R509). -/
def satSucc8 (v : Byte) : Byte := BitVec.ofNat 8 (min (v.toNat + 1) 255)

/-- The bytes of TX_BUF, RX_BUF and the reserved addresses above the registers (R650, R201). -/
def State.readHigh (s : State) (n : Nat) : Byte :=
  if 0x100 ≤ n ∧ n ≤ 0x1FE then s.txBufByte (n - 0x100)
  else if 0x200 ≤ n ∧ n ≤ 0x2FE then s.rxBufByte (n - 0x200)
  else 0x00#8

/-- READ(S, a) (R650): the register map R104, the buffers, and 0x00 for every reserved address. -/
def State.read (s : State) (a : Addr) : Byte :=
  match a.toNat with
  | 0x000 => Config.idValue
  | 0x001 => Config.versionValue
  | 0x002 => s.regs.ctrl &&& 0x07#8
  | 0x003 => 0x00#8
  | 0x004 => s.regs.status
  | 0x005 => s.regs.irqEn
  | 0x006 => s.regs.nodeAddr
  | 0x007 => s.regs.seq
  | 0x008 => s.regs.txMcs
  | 0x009 => s.regs.txDest
  | 0x00A => s.regs.txLen
  | 0x00B => s.txStateByte
  | 0x00C => s.snd.attempt
  | 0x00D => s.regs.txFailCode
  | 0x00E => s.regs.ackTimeoutLo
  | 0x00F => s.regs.ackTimeoutHi
  | 0x010 => s.regs.frameTimeLo
  | 0x011 => s.regs.frameTimeHi
  | 0x012 => s.rxStatByte
  | 0x013 => s.regs.rxHdr.mcs
  | 0x014 => s.regs.rxHdr.len
  | 0x015 => s.regs.rxHdr.seq
  | 0x016 => s.regs.rxHdr.dest
  | 0x017 => s.regs.rxHdr.src
  | 0x018 => s.regs.rxHdr.cksum
  | 0x019 => s.regs.rxCount
  | 0x01A => s.regs.rxDropCode
  | 0x01B => s.regs.cmdErrCode
  | 0x01C => s.snd.csum
  | 0x020 => s.cnt.txData
  | 0x021 => s.cnt.txAck
  | 0x022 => s.cnt.rxDeliv
  | 0x023 => s.cnt.rxCksum
  | 0x024 => s.cnt.rxTrunc
  | 0x025 => s.cnt.rxFilt
  | 0x026 => s.cnt.rxOverrun
  | 0x027 => s.cnt.timeout
  | 0x028 => s.cnt.rxAck
  | n => s.readHigh n

/-- ENGINE_BYTE(S) (R601). A place past the sentinel's third byte, which no run reaches, is a free value
(log entry 12). -/
def State.engineByte (s : State) : Byte :=
  let i := s.eng.idx.toNat
  if i < 6 then headerByte s.eng.hdr i
  else
    match s.eng.kind with
    | .data => s.txBufByte (i - 6)
    | .ack =>
      match Config.ackSentinel[i - 6]? with
      | some b => b
      | none => Config.freeByte s.epoch i

/-- The tlast byte is presented (R402, R602): `h.eng_idx = h.eng_plen + 5`. -/
def State.engineAtLast (s : State) : Bool := s.eng.idx.toNat == s.eng.plen.toNat + 5

end Sys2Proof.Machine
end

