-- ==== Sys2Proof/Machine/Receiver.lean ====
section
/-! DEFINITION. The packet validator and acknowledgment responder (spec/43_receiver.md): the byte intake of
phase P3, the four inbound frame classes, and the commands RX_RELEASE and RX_ACCEPT (phase P6). -/

namespace Sys2Proof.Machine

/-! ### Inbound frame classes (R553 to R556) -/

/-- A frame with any byte presented while ENABLE = 0 is discarded whole, with no event and no counter
(R551); otherwise its class acts. -/
def whenTaking (s : State) (act : State → State) : Result :=
  if s.enable then .next (act s) else .next s

/-- A completed frame that is no matching ack leaves `ack_match` false (R505). -/
def noMatch (s : State) : State := { s with cyc := { s.cyc with ackMatch := false } }

/-- RX_TRUNC (R553: L < 6, DROP(1)). -/
def execRxTrunc (_bytes : List Byte) (s : State) : Result :=
  whenTaking s fun s => drop .truncatedHeader (noMatch s)

/-- RX_BADSUM (R553: VALIDATE false, DROP(2)). -/
def execRxBadsum (_h : Header) (_payload : List Byte) (s : State) : Result :=
  whenTaking s fun s => drop .checksumMismatch (noMatch s)

/-- ACK_MATCH for a valid ack frame (R505): the sequence number alone is compared. -/
def State.ackMatches (s : State) (h : Header) : Bool :=
  s.snd.st == .awaitingAck && h.seq == s.snd.hdrL.seq

/-- ACK_RX (R555) with the match flag computed from the same frame (R505). -/
def receiveAck (h : Header) (s : State) : State :=
  { s with
    cnt := { s.cnt with rxAck := s.cnt.rxAck + 1#8 }
    cyc := { s.cyc with ackMatch := s.ackMatches h } }

/-- RX_ACK (R553, R555). -/
def execRxAck (h : Header) (s : State) : Result :=
  whenTaking s (receiveAck h)

/-- The cause that drops a valid data frame, in the order of R553; none delivers it. -/
def State.dataDrop (s : State) (h : Header) (p : List Byte) : Option DropCause :=
  if checkDest ⟨h, p⟩ s.regs.nodeAddr = false then some .destMismatch
  else if p.length > Config.maxPayload then some .oversize
  else if s.strictLen ∧ h.len.toNat ≠ p.length then some .lengthMismatch
  else if s.regs.rxValid ∨ (s.autoAck ∧ s.ack.pend) then some .rxOverrun
  else none

/-- A valid data frame: dropped or delivered (R553). -/
def receiveData (h : Header) (p : List Byte) (s : State) : State :=
  match s.dataDrop h p with
  | some c => drop c s
  | none => deliver h p s

/-- RX_DATA (R553, R556). -/
def execRxData (h : Header) (payload : List Byte) (s : State) : Result :=
  whenTaking s fun s => receiveData h payload (noMatch s)

/-! ### Phase P3: the receive assembler -/

/-- Taking one byte (R550, from `i <- h.rx_n` on): store it, sum it unless it is byte 5, count it. -/
def Assembler.take (a : Assembler) (b : Byte) : Assembler :=
  let i := a.n.toNat
  { a with
    hdr := if i < 6 then headerSet a.hdr i b else a.hdr
    stage := if 6 ≤ i ∧ i - 6 < Config.maxPayload then memSet a.stage (i - 6) b else a.stage
    sum := if i ≠ 5 then a.sum + b else a.sum
    n := BitVec.ofNat 9 (min (i + 1) 262) }

/-- The assembler ready for the next frame (R550, R551). -/
def Assembler.clear (a : Assembler) : Assembler := { a with n := 0, sum := 0 }

/-- The payload of the completed frame as the assembler holds it. Payload bytes past the 255th are summed
and not stored (R550), so all of them stand here as one byte that keeps the sum (log entry 9). -/
def State.assembledPayload (s : State) (n : Nat) : List Byte :=
  if n ≤ Config.maxPayload then s.stagePayload n
  else
    let p := s.stagePayload Config.maxPayload
    let h := s.asm.hdr
    p ++ [s.asm.sum - checksum h.mcs h.len h.seq h.dest h.src p]

/-- COMPLETE(L)'s classification (R553, R323), on the assembler's registers. -/
def State.completedFrame (s : State) : Instr :=
  let len := s.asm.n.toNat
  let h := s.asm.hdr
  if len < 6 then .rxTrunc ((headerBytes h).take len)
  else if s.asm.sum ≠ h.cksum then .rxBadsum h (s.assembledPayload (len - 6))
  else if len - 6 = 3 ∧ s.stagePayload 3 = Config.ackSentinel then .rxAck h
  else .rxData h (s.assembledPayload (len - 6))

/-- The intake while enabled (R550): the state after this cycle's byte, and the frame it completes. -/
def intakeEnabled (s : State) : State × Option Instr :=
  let p := s.now
  if p.rxTvalid = false then (s, none)
  else if s.asm.discard then
    (if p.rxTlast then { s with asm := { s.asm with discard := false } } else s, none)
  else
    let s1 := { s with asm := s.asm.take p.rxTdata }
    (s1, if p.rxTlast then some s1.completedFrame else none)

/-- The intake while disabled (R551). -/
def intakeDisabled (s : State) : State :=
  let p := s.now
  let discard :=
    if p.rxTvalid ∧ p.rxTlast then false
    else if p.rxTvalid ∨ 0 < s.asm.n.toNat then true
    else s.asm.discard
  { s with asm := { s.asm.clear with discard := discard } }

/-- Phase P3 up to the completed frame (R550, R551). -/
def intake (s : State) : State × Option Instr :=
  if s.enable then intakeEnabled s else (intakeDisabled s, none)

/-- The end of R550 after COMPLETE. -/
def closeFrame (s : State) : State := { s with asm := s.asm.clear }

/-! ### Commands (phase P6) -/

/-- RX_RELEASE (R558). -/
def execRxRelease (s : State) : Result :=
  if s.regs.rxValid = false then .next (cmdErr .noFrame s) else .next (releaseFrame s)

/-- RX_ACCEPT (R559). -/
def execRxAccept (s : State) : Result :=
  if s.regs.rxValid = false then .next (cmdErr .noFrame s)
  else if s.regs.rxAcked then .next (releaseFrame s)
  else if s.enable = false then .next (cmdErr .disabled s)
  else if s.ack.pend then .next (cmdErr .busy s)
  else
    .next (releaseFrame (postAck s.regs.rxHdr.mcs s.regs.rxHdr.seq s.regs.rxHdr.src s))

end Sys2Proof.Machine
end

