-- ==== Sys2Proof/Machine/TxPort.lean ====
section
/-! DEFINITION. The output engine and the transmit arbiter (spec/44_tx_port.md), phase P4, and the two
outbound frame rows. -/

namespace Sys2Proof.Machine

/-- The end of a frame on the TX port (R602): the counter, the event of an ack, `tx_done`. -/
def finishFrame (s : State) : State :=
  let s1 : State :=
    { s with
      eng := { s.eng with busy := false, idx := 0 }
      cyc := { s.cyc with txDone := some s.eng.kind } }
  match s.eng.kind with
  | .data => { s1 with cnt := { s1.cnt with txData := s1.cnt.txData + 1#8 } }
  | .ack => raise .ackSent { s1 with cnt := { s1.cnt with txAck := s1.cnt.txAck + 1#8 } }

/-- Handshake and completion, P4's first step (R602). -/
def handshake (s : State) : State :=
  if s.eng.busy ∧ s.now.txTready then
    if s.engineAtLast then finishFrame s
    else { s with eng := { s.eng with idx := s.eng.idx + 1 } }
  else s

/-- The arbiter, P4's second step (R603): which frame, if any, the engine loads now. -/
def State.arbiter (s : State) : Option EngKind :=
  if s.eng.busy ∨ s.enable = false ∨ s.now.chanErr then none
  else if s.ack.pend then some .ack
  else if s.snd.st = .sending ∧ s.snd.frameReady ∧ s.snd.started = false ∧ s.snd.abortPend = false then
    some .data
  else none

/-- The header LOAD_ACK builds (R604, R304). -/
def State.ackHeader (s : State) : Header :=
  { mcs := s.ack.mcs
    len := 0x03#8
    seq := s.ack.seq
    dest := s.ack.dest
    src := s.regs.nodeAddr
    cksum := checksum s.ack.mcs 0x03#8 s.ack.seq s.ack.dest s.regs.nodeAddr Config.ackSentinel }

/-- LOAD_ACK() (R604). -/
def loadAck (s : State) : State :=
  { s with
    eng := { busy := true, kind := .ack, hdr := s.ackHeader, plen := 0x03#8, idx := 0 }
    ack := { s.ack with pend := false } }

/-- The header LOAD_DATA builds (R605, R303). -/
def State.dataHeader (s : State) : Header :=
  { mcs := s.snd.hdrL.mcs
    len := s.snd.hdrL.len
    seq := s.snd.hdrL.seq
    dest := s.snd.hdrL.dest
    src := s.snd.hdrL.src
    cksum := s.snd.csum }

/-- LOAD_DATA() (R605). -/
def loadData (s : State) : State :=
  { s with
    eng := { busy := true, kind := .data, hdr := s.dataHeader, plen := s.snd.hdrL.len, idx := 0 }
    snd := { s.snd with started := true } }

/-- TX_ACK_FRAME (R604): loaded when, and only when, the arbiter grants it (R603). -/
def execTxAckFrame (s : State) : Result :=
  if s.arbiter = some .ack then .next (loadAck s) else .next s

/-- TX_DATA_FRAME (R605): loaded when, and only when, the arbiter grants it (R603). -/
def execTxDataFrame (s : State) : Result :=
  if s.arbiter = some .data then .next (loadData s) else .next s

/-- The whole frame the engine is presenting (R600): its header, then its payload bytes. -/
def State.engineFrame (s : State) : List Byte :=
  headerBytes s.eng.hdr ++
    match s.eng.kind with
    | .data => s.txPayload s.eng.plen.toNat
    | .ack => Config.ackSentinel

end Sys2Proof.Machine
end

