-- ==== Sys2Proof/Machine/Cycle.lean ====
section
/-! DEFINITION. The ends of a clock cycle (spec/40_cycle.md R402, R403, R406, R411) and what each phase hands
to the operations: the ports' sample, the host's word, the arbiter's grant, the end-of-cycle STATUS. -/

namespace Sys2Proof.Machine

/-- The output ports that do not depend on the bus address (R402); `bus_rdata` is the read's (R411). -/
def State.portSample (s : State) : Ports where
  txTvalid := s.eng.busy
  txTdata := if s.eng.busy then s.engineByte else 0x00#8
  txTlast := s.eng.busy && s.engineAtLast
  irq := s.irq
  busRdata := s.out.busRdata

/-- The start of a cycle: cycle-local values cleared (R403, R406), ports sampled from the start-of-cycle
state (R402). -/
def beginCycle (s : State) : State :=
  { s with cyc := CycleLocals.none, out := s.portSample }

/-- The end of a cycle (R406): STATUS finalised; the next cycle's inputs come up. -/
def endCycle (s : State) : State :=
  { s with
    regs := { s.regs with status := finalStatus s.regs.status s.cyc.setmask s.cyc.w1c }
    cyc := CycleLocals.none
    inputs := s.inputs.tail
    cycle := s.cycle + 1 }

/-- The frame the arbiter has the engine load now (R603). -/
def State.grant? (s : State) : Option Instr := s.arbiter.map decodeGrant

/-- The instruction the bus pins of this cycle name: the host's read or write (R310). -/
def State.busInstr (s : State) : Instr :=
  decodeBus (busWord s.now.busWe s.now.busAddr s.now.busWdata)

/-- The host write of this cycle, decoded; none in a read cycle (R310, R401). -/
def State.hostWrite? (s : State) : Option Instr :=
  if s.now.busWe then some s.busInstr else none

/-- Pins that carry a bus word and nothing else (R310). -/
def pinsOfWord (w : BusWord) : Pins :=
  { Pins.quiet with busWe := wordWe w, busAddr := wordAddr w, busWdata := wordData w }

/-- Pins that carry one inbound byte and nothing else (R401). -/
def pinsOfByte (b : Byte) (last : Bool) : Pins :=
  { Pins.quiet with rxTvalid := true, rxTdata := b, rxTlast := last }

/-- An encoding placed so that the next cycle runs it. A bus word is put on the bus pins. A frame needs a
cycle for each byte, so all bytes but the last are taken already, with the block enabled, and the last one is
on the RX port with tlast (log entry 3). -/
def placeEncoding (e : Encoding) (s : State) : State :=
  match e with
  | .bus w => { s with inputs := pinsOfWord w :: s.inputs }
  | .frame f =>
    { s with
      regs := { s.regs with ctrl := s.regs.ctrl ||| 0x01#8 }
      asm := (f.dropLast).foldl Assembler.take { s.asm.clear with discard := false }
      inputs := pinsOfByte (f.getLast?.getD 0#8) true :: s.inputs }
  | .grant _ => s

end Sys2Proof.Machine
end

