-- ==== Sys2Proof/Machine/HostBus.lean ====
section
/-! DEFINITION. Host bus operations (spec/45_host_commands.md): the read, the register and buffer writes, and
the commands NOP, illegal and SOFT_RESET. Writes run in phase P6; the read is of the start-of-cycle state
(spec/40_cycle.md R411). -/

namespace Sys2Proof.Machine

/-- RD (R650, R411): the read port shows the byte; no state of the block changes (R209). -/
def execRd (a : Addr) (s : State) : Result :=
  .next { s with out := { s.out with busRdata := s.read a } }

/-- WR_CTRL (R652). -/
def execWrCtrl (v : Byte) (s : State) : Result :=
  let s1 : State := { s with regs := { s.regs with ctrl := v &&& 0x07#8 } }
  if s.enable ∧ v.getLsbD 0 = false then .next (disable s1) else .next s1

/-- WR_STATUS (R655): the byte is the cycle's clear mask. -/
def execWrStatus (v : Byte) (s : State) : Result := .next (clearEvents v s)

/-- WR_IRQ_EN (R656). -/
def execWrIrqEn (v : Byte) (s : State) : Result :=
  .next { s with regs := { s.regs with irqEn := v } }

/-- WR_NODE_ADDR (R653): locked while ENABLE = 1. -/
def execWrNodeAddr (v : Byte) (s : State) : Result :=
  if s.enable then .next (cmdErr .lockedWrite s)
  else .next { s with regs := { s.regs with nodeAddr := v } }

/-- The lock of the TX registers and TX_BUF (R654): refused unless the sender is Idle. -/
def txLocked (s : State) (store : State → State) : Result :=
  if s.snd.st ≠ .idle then .next (cmdErr .lockedWrite s) else .next (store s)

/-- WR_TX_MCS (R654). -/
def execWrTxMcs (v : Byte) (s : State) : Result :=
  txLocked s fun s => { s with regs := { s.regs with txMcs := v } }

/-- WR_TX_DEST (R654). -/
def execWrTxDest (v : Byte) (s : State) : Result :=
  txLocked s fun s => { s with regs := { s.regs with txDest := v } }

/-- WR_TX_LEN (R654). -/
def execWrTxLen (v : Byte) (s : State) : Result :=
  txLocked s fun s => { s with regs := { s.regs with txLen := v } }

/-- WR_TX_BUF (R654); index 255 is the reserved address 0x1FF, whose write is ignored (R322). -/
def execWrTxBuf (idx v : Byte) (s : State) : Result :=
  if idx = 0xFF#8 then .next s else txLocked s fun s => setTxBuf s idx.toNat v

/-- WR_ACK_TIMEOUT_LO (R657). -/
def execWrAckTimeoutLo (v : Byte) (s : State) : Result :=
  .next { s with regs := { s.regs with ackTimeoutLo := v } }

/-- WR_ACK_TIMEOUT_HI (R657). -/
def execWrAckTimeoutHi (v : Byte) (s : State) : Result :=
  .next { s with regs := { s.regs with ackTimeoutHi := v } }

/-- WR_FRAME_TIME_LO (R657). -/
def execWrFrameTimeLo (v : Byte) (s : State) : Result :=
  .next { s with regs := { s.regs with frameTimeLo := v } }

/-- WR_FRAME_TIME_HI (R657). -/
def execWrFrameTimeHi (v : Byte) (s : State) : Result :=
  .next { s with regs := { s.regs with frameTimeHi := v } }

/-- WR_CNT_TX_DATA (R658). -/
def execWrCntTxData (_v : Byte) (s : State) : Result :=
  .next { s with cnt := { s.cnt with txData := 0x00#8 } }

/-- WR_CNT_TX_ACK (R658). -/
def execWrCntTxAck (_v : Byte) (s : State) : Result :=
  .next { s with cnt := { s.cnt with txAck := 0x00#8 } }

/-- WR_CNT_RX_DELIV (R658). -/
def execWrCntRxDeliv (_v : Byte) (s : State) : Result :=
  .next { s with cnt := { s.cnt with rxDeliv := 0x00#8 } }

/-- WR_CNT_RX_CKSUM (R658). -/
def execWrCntRxCksum (_v : Byte) (s : State) : Result :=
  .next { s with cnt := { s.cnt with rxCksum := 0x00#8 } }

/-- WR_CNT_RX_TRUNC (R658). -/
def execWrCntRxTrunc (_v : Byte) (s : State) : Result :=
  .next { s with cnt := { s.cnt with rxTrunc := 0x00#8 } }

/-- WR_CNT_RX_FILT (R658). -/
def execWrCntRxFilt (_v : Byte) (s : State) : Result :=
  .next { s with cnt := { s.cnt with rxFilt := 0x00#8 } }

/-- WR_CNT_RX_OVERRUN (R658). -/
def execWrCntRxOverrun (_v : Byte) (s : State) : Result :=
  .next { s with cnt := { s.cnt with rxOverrun := 0x00#8 } }

/-- WR_CNT_TIMEOUT (R658). -/
def execWrCntTimeout (_v : Byte) (s : State) : Result :=
  .next { s with cnt := { s.cnt with timeout := 0x00#8 } }

/-- WR_CNT_RX_ACK (R658). -/
def execWrCntRxAck (_v : Byte) (s : State) : Result :=
  .next { s with cnt := { s.cnt with rxAck := 0x00#8 } }

/-- NOP (R660). -/
def execNop (s : State) : Result := .next s

/-- SOFT_RESET (R662): the reset state; the cycle's events are discarded with its cycle-local values. -/
def execSoftReset (s : State) : Result := .next (hwReset s)

/-- CMD_ILLEGAL (R661). -/
def execCmdIllegal (_code : Byte) (s : State) : Result := .next (cmdErr .illegalCommand s)

/-- WR_IGNORED (R651, R322): no effect, no event. -/
def execWrIgnored (_addr : Addr) (_v : Byte) (s : State) : Result := .next s

end Sys2Proof.Machine
end

