-- ==== Sys2Proof/Machine/Sender.lean ====
section
/-! DEFINITION. The MAC sender retry state machine (spec/42_sender.md): the commands SEND and ABORT (phase
P6), the sender's step (phase P5) and the transport abort (phase P2). -/

namespace Sys2Proof.Machine

/-- The header bytes SEND latches (R501, R303). -/
def State.sendHeader (s : State) : LatchedHeader :=
  ⟨s.regs.txMcs, s.regs.txLen, s.regs.seq, s.regs.txDest, s.regs.nodeAddr⟩

/-- The accepted SEND (R501, after its four checks). -/
def startSend (s : State) : State :=
  let h := s.sendHeader
  { s with
    regs := { s.regs with txFailCode := 0x00#8 }
    snd :=
      { st := .sending
        hdrL := h
        csum := checksum h.mcs h.len h.seq h.dest h.src []
        prepIdx := 0
        frameReady := false
        started := false
        abortPend := false
        attempt := 1
        elapsed := 0
        remaining := 0 } }

/-- SEND (R501). Its state check is on the state P5 left (R404), so a SEND in the one cycle that starts in Delivered
is accepted (R501's corner case), against the first sentence of R817 on it (log entry 21). -/
def execSend (s : State) : Result :=
  if s.now.chanErr then .next (txFail .transportUnavailable s)
  else if s.enable = false then .next (cmdErr .disabled s)
  else if s.snd.st ≠ .idle then .next (cmdErr .busy s)
  else if s.regs.txLen = 0x00#8 then .next (txFail .invalidFieldRange s)
  else .next (startSend s)

/-- ABORT (R512). -/
def execAbort (s : State) : Result := .next (abortSend s)

/-! ### Phase P5 -/

/-- One cycle of the checksum pass (R502). -/
def checksumPass (s : State) : State :=
  let idx := s.snd.prepIdx + 1#8
  { s with
    snd :=
      { s.snd with
        csum := s.snd.csum + s.txBufByte s.snd.prepIdx.toNat
        prepIdx := idx
        frameReady := idx == s.snd.hdrL.len } }

/-- Sending with the frame ready (R503). -/
def sendingStep (s : State) : State :=
  if s.cyc.txDone = some .data then
    if s.snd.abortPend then fail .aborted s
    else { s with snd := { s.snd with st := .awaitingAck, elapsed := 0 } }
  else s

/-- The matching ack (R504): SEQ advances, TX_DONE, Delivered. -/
def acceptAck (s : State) : State :=
  raise .txDone
    { s with
      regs := { s.regs with seq := s.regs.seq + 1#8 }
      snd := { s.snd with st := .delivered } }

/-- TIMEOUT() (R507), with the elapsed count the tick left. -/
def timeout (s : State) : State :=
  raise .ackTimeout
    { s with
      cnt := { s.cnt with timeout := s.cnt.timeout + 1#8 }
      snd :=
        { s.snd with
          attempt := satSucc8 s.snd.attempt
          remaining := BitVec.ofNat 26 s.drawTicks
          started := false
          st := .backingOff } }

/-- AwaitingAck (R504): a match wins over a tick; the timeout is at the TO_eff-th tick. -/
def awaitingStep (s : State) : State :=
  if s.cyc.ackMatch then acceptAck s
  else if s.now.tick then
    let e := s.snd.elapsed.toNat + 1
    let s1 := { s with snd := { s.snd with elapsed := BitVec.ofNat 16 e } }
    if s.toEff ≤ e then timeout s1 else s1
  else s

/-- BackingOff (R510). -/
def backingOffStep (s : State) : State :=
  if s.snd.remaining = 0 then { s with snd := { s.snd with st := .sending } }
  else if s.now.tick then { s with snd := { s.snd with remaining := s.snd.remaining - 1 } }
  else s

/-- Phase P5: one step of the sender FSM (R500, R502 to R511). Delivered is left here, before the host's phase of
the same cycle (R511, R403; log entry 21). -/
def senderPhase (s : State) : State :=
  match s.snd.st with
  | .idle => s
  | .sending => if s.snd.frameReady then sendingStep s else checksumPass s
  | .awaitingAck => awaitingStep s
  | .delivered => goIdle s
  | .backingOff => backingOffStep s

/-! ### Phase P2 -/

/-- The sender's part of a transport error (R405 step 4, R514). -/
def transportAbort (s : State) : State :=
  match s.snd.st with
  | .idle => s
  | .delivered => s
  | .sending => fail .transportUnavailable s
  | .awaitingAck => fail .transportUnavailable s
  | .backingOff => fail .transportUnavailable s

/-- Phase P2 (R405): with `chan_err` the engine's frame is abandoned, the ack slot emptied, an active send
failed. -/
def transportPhase (s : State) : State :=
  if s.now.chanErr then
    let s1 := raise .xportError s
    let s2 : State :=
      if s1.eng.busy then { s1 with eng := { s1.eng with busy := false, idx := 0 } } else s1
    transportAbort { s2 with ack := { s2.ack with pend := false } }
  else s

end Sys2Proof.Machine
end

