-- ==== Sys2Proof/Machine/Dispatch.lean ====
section
/-! DEFINITION. The dispatch: one arm for each row of spec/opcode_table.json. -/

namespace Sys2Proof.Machine

/-- The meaning of each instruction. -/
def exec (i : Instr) (s : State) : Host.Outcome State Fault Refusal :=
  match i with
  | .rd addr => Sys2Proof.Machine.execRd addr s
  | .wrCtrl v => Sys2Proof.Machine.execWrCtrl v s
  | .wrStatus v => Sys2Proof.Machine.execWrStatus v s
  | .wrIrqEn v => Sys2Proof.Machine.execWrIrqEn v s
  | .wrNodeAddr v => Sys2Proof.Machine.execWrNodeAddr v s
  | .wrTxMcs v => Sys2Proof.Machine.execWrTxMcs v s
  | .wrTxDest v => Sys2Proof.Machine.execWrTxDest v s
  | .wrTxLen v => Sys2Proof.Machine.execWrTxLen v s
  | .wrAckTimeoutLo v => Sys2Proof.Machine.execWrAckTimeoutLo v s
  | .wrAckTimeoutHi v => Sys2Proof.Machine.execWrAckTimeoutHi v s
  | .wrFrameTimeLo v => Sys2Proof.Machine.execWrFrameTimeLo v s
  | .wrFrameTimeHi v => Sys2Proof.Machine.execWrFrameTimeHi v s
  | .wrCntTxData v => Sys2Proof.Machine.execWrCntTxData v s
  | .wrCntTxAck v => Sys2Proof.Machine.execWrCntTxAck v s
  | .wrCntRxDeliv v => Sys2Proof.Machine.execWrCntRxDeliv v s
  | .wrCntRxCksum v => Sys2Proof.Machine.execWrCntRxCksum v s
  | .wrCntRxTrunc v => Sys2Proof.Machine.execWrCntRxTrunc v s
  | .wrCntRxFilt v => Sys2Proof.Machine.execWrCntRxFilt v s
  | .wrCntRxOverrun v => Sys2Proof.Machine.execWrCntRxOverrun v s
  | .wrCntTimeout v => Sys2Proof.Machine.execWrCntTimeout v s
  | .wrCntRxAck v => Sys2Proof.Machine.execWrCntRxAck v s
  | .wrTxBuf idx v => Sys2Proof.Machine.execWrTxBuf idx v s
  | .nop => Sys2Proof.Machine.execNop s
  | .send => Sys2Proof.Machine.execSend s
  | .abort => Sys2Proof.Machine.execAbort s
  | .rxRelease => Sys2Proof.Machine.execRxRelease s
  | .rxAccept => Sys2Proof.Machine.execRxAccept s
  | .softReset => Sys2Proof.Machine.execSoftReset s
  | .cmdIllegal code => Sys2Proof.Machine.execCmdIllegal code s
  | .wrIgnored addr v => Sys2Proof.Machine.execWrIgnored addr v s
  | .rxTrunc bytes => Sys2Proof.Machine.execRxTrunc bytes s
  | .rxBadsum h payload => Sys2Proof.Machine.execRxBadsum h payload s
  | .rxAck h => Sys2Proof.Machine.execRxAck h s
  | .rxData h payload => Sys2Proof.Machine.execRxData h payload s
  | .txDataFrame => Sys2Proof.Machine.execTxDataFrame s
  | .txAckFrame => Sys2Proof.Machine.execTxAckFrame s

end Sys2Proof.Machine
end

