-- ==== Sys2Proof/Machine/Step.lean ====
section
/-! DEFINITION. One step: one rising edge of the clock (spec/40_cycle.md R400), its phases in order (R403). -/

namespace Sys2Proof.Machine

/-- Run an operation if a phase hands one over. -/
def runOpt (i? : Option Instr) (s : State) : Result :=
  match i? with
  | none => .next s
  | some i => exec i s

/-- Phase P3 (R403): the byte intake; a completed frame runs as its class, and the assembler restarts. -/
def receivePhase (s : State) : Result :=
  match intake s with
  | (s1, none) => .next s1
  | (s1, some i) => andThen (exec i s1) fun s2 => .next (closeFrame s2)

/-- Phase P4 (R403): the handshake, then the arbiter's load. -/
def txPhase (s : State) : Result :=
  let s1 := handshake s
  runOpt s1.grant? s1

/-- The cycle up to the host's phase when rst = 0: the read port (R411), then P2 to P5. -/
def beforeHost (s : State) : Result :=
  andThen (exec (.rd s.now.busAddr) (beginCycle s)) fun s0 =>
  andThen (receivePhase (transportPhase s0)) fun s3 =>
  andThen (txPhase s3) fun s4 =>
  .next (senderPhase s4)

/-- The cycle when rst = 1 (P1, R800): the ports still show the start-of-cycle state; nothing else happens. -/
def resetCycle (s : State) : Result :=
  andThen (exec (.rd s.now.busAddr) (beginCycle s)) fun s0 =>
  .next (endCycle (hwReset s0))

/-- The cycle up to the end of P6 when rst = 0: the host's write runs on the state P5 left (R403). -/
def afterHost (s : State) : Result :=
  andThen (beforeHost s) fun s5 => runOpt s.hostWrite? s5

/-- One clock cycle (R403): P1; or the read port, P2 to P5, the host's write in P6, and STATUS (R406). -/
def step (s : State) : Host.Outcome State Fault Refusal :=
  if s.now.rst then resetCycle s
  else
    andThen (afterHost s) fun s6 => .next (endCycle s6)

/-- s with the instruction of an opcode-table word placed so that the next step runs it (log entry 3). -/
def State.withFetchWord (s : State) (nbits w : Nat) : State :=
  match rawEncoding nbits w with
  | .ok e => placeEncoding e s
  | .error _ => s

end Sys2Proof.Machine
end

