-- ==== Sys2Proof/Safety.lean ====
section
/-! DEFINITION. What claims about runs speak of: the invariants of spec/10_state.md R145 with what carries
them through a step, the canonical form of the storages, the legal values of the code registers
(spec/60_exceptions.md R702 to R704) and the frames on the TX port (spec/44_tx_port.md R606). -/

namespace Sys2Proof.Machine

/-- The pins of the cycles that present a frame on the RX port, one byte a cycle, tlast on the last, nothing
else happening (R330 RXFRAME, R401). -/
def pinsOfFrame (f : List Byte) : List Pins :=
  match f with
  | [] => []
  | [b] => [pinsOfByte b true]
  | b :: rest => pinsOfByte b false :: pinsOfFrame rest

/-- A send is active: Sending, AwaitingAck or BackingOff (R145(a)). -/
def SenderState.active (st : SenderState) : Bool :=
  match st with
  | .idle => false
  | .sending => true
  | .awaitingAck => true
  | .delivered => false
  | .backingOff => true

/-- The engine is streaming a data frame. -/
def State.dataOnPort (s : State) : Bool := s.eng.busy && s.eng.kind == .data

/-- The invariants (a) to (e) of R145. In (a), "unless ENABLE has been cleared during an abort still pending"
is read as: unless an abort is pending (log entry 20). -/
structure SpecInv (s : State) : Prop where
  latchedSeq : s.snd.st.active = true → s.snd.hdrL.seq = s.regs.seq
  latchedSrc : s.snd.st.active = true → s.snd.abortPend = false → s.snd.hdrL.src = s.regs.nodeAddr
  attemptPos : s.snd.st.active = true → 1 ≤ s.snd.attempt.toNat
  idleClear : s.snd.st = .idle →
    s.snd.started = false ∧ s.snd.abortPend = false ∧ s.snd.frameReady = false
  abortStreams : s.snd.abortPend = true →
    s.snd.st = .sending ∧ s.snd.started = true ∧ s.dataOnPort = true
  ackedHeld : s.regs.rxAcked = true → s.regs.rxValid = true
  discardEmpty : s.asm.discard = true → s.asm.n = 0

/-- R145 with the facts that carry it through a cycle: an active send without a pending abort runs with
ENABLE = 1; the engine streams data exactly while a started attempt is in Sending; the checksum pass is over
before the first load and stays over. -/
structure SessionInv (s : State) : Prop extends SpecInv s where
  activeEnabled : s.snd.st.active = true → s.snd.abortPend = false → s.enable = true
  streamsData : s.dataOnPort = true ↔ (s.snd.st = .sending ∧ s.snd.started = true)
  startedReady : s.snd.st = .sending → s.snd.started = true → s.snd.frameReady = true
  waitReady : s.snd.st = .awaitingAck → s.snd.frameReady = true
  backoffReady : s.snd.st = .backingOff → s.snd.frameReady = true ∧ s.snd.started = false

/-- The checksum of the latched header and the first n bytes of TX_BUF (R451, R502). -/
def State.sendChecksum (s : State) (n : Nat) : Byte :=
  checksum s.snd.hdrL.mcs s.snd.hdrL.len s.snd.hdrL.seq s.snd.hdrL.dest s.snd.hdrL.src (s.txPayload n)

/-- What makes every frame the block emits a valid one (R462, R518, R606), carried by `SessionInv`. -/
structure TransmitInv (s : State) : Prop extends SessionInv s where
  passRunning : s.snd.st = .sending → s.snd.frameReady = false →
    s.snd.prepIdx.toNat < s.snd.hdrL.len.toNat ∧ s.snd.csum = s.sendChecksum s.snd.prepIdx.toNat
  passDone : s.snd.st.active = true → s.snd.frameReady = true →
    1 ≤ s.snd.hdrL.len.toNat ∧ s.snd.csum = s.sendChecksum s.snd.hdrL.len.toNat
  dataLoaded : s.dataOnPort = true → s.eng.hdr = s.dataHeader ∧ s.eng.plen = s.snd.hdrL.len
  ackLoaded : s.eng.busy = true → s.eng.kind = .ack →
    s.eng.plen = 0x03#8 ∧ s.eng.hdr.len = 0x03#8 ∧
      validate ⟨s.eng.hdr, Config.ackSentinel⟩ = true
  idxInFrame : s.eng.busy = true → s.eng.idx.toNat ≤ s.eng.plen.toNat + 5

/-- One step that goes on with the same send: active before and after, and not a cycle in which a SEND could be
accepted after a pending abort has ended the send (R501, R503). -/
def SendContinues (s t : State) : Prop :=
  s.snd.st.active = true ∧ t.snd.st.active = true ∧
    (s.snd.abortPend = true → s.hostWrite? ≠ some .send) ∧ step s = .next t

/-- The storages are in canonical form and hold nothing outside the buffers (R130, R131, R143, R201). -/
structure StorageInv (s : State) : Prop where
  memForm : Memory.wf s.mem = true
  memInBuffers : s.mem.all (fun c => decide (0x100 ≤ c.1 ∧ c.1 ≤ 0x1FE) || decide (0x200 ≤ c.1 ∧ c.1 ≤ 0x2FE)) = true
  stageForm : memSorted s.asm.stage 0 Config.maxPayload = true

/-- The reserved bits of CTRL are 0 (R105) and the code registers hold only the codes of R702 to R704. -/
structure CodesInv (s : State) : Prop where
  ctrlReserved : s.regs.ctrl &&& 0xF8#8 = 0#8
  failCode : s.regs.txFailCode.toNat ≤ 3
  dropCode : s.regs.rxDropCode.toNat ≤ 6
  cmdErrCode : s.regs.cmdErrCode.toNat ≤ 5

/-- The counters of places stay in their ranges (R140, R142, R143). -/
structure RangeInv (s : State) : Prop where
  rxCountRange : s.asm.n.toNat ≤ 262
  engIdxRange : s.eng.idx.toNat ≤ 260
  engIdleIdx : s.eng.busy = false → s.eng.idx = 0
  engIdxInFrame : s.eng.busy = true → s.eng.idx.toNat ≤ s.eng.plen.toNat + 5

end Sys2Proof.Machine
end

