-- ==== Sys2Proof/Certificates/Slice0/Obligations.lean ====
section
/-! DEFINITION. The statements for the provers, one `def Obligations.<Name> : Prop` each, from the numbered
rules of spec/. -/

open Sys2Proof Sys2Proof.Machine

/-! ### Encodings -/

/-- R310, R320, R323: decoding the encoding of a well-formed instruction gives it back. That an outbound row is
encoded as the arbiter's grant is the model's choice (log entry 10). -/
def Obligations.DecodeOfEncodeIsTheInstruction : Prop :=
  ∀ i : Instr, wellFormed i = true → decode (encode i) = i

/-- R311, R320 to R324: every bus word, byte string and grant decodes to a well-formed instruction; a bus word
decodes to a row whose match and mask in spec/opcode_table.json take it (the well-formedness of CMD_ILLEGAL and
WR_IGNORED says that no row above takes it); a byte string decodes to the first class of R323 that applies. That a
read word is read whatever its DATA is log entry 7, and that a grant is an encoding is the model's choice (log
entry 10). -/
def Obligations.EveryEncodingDecodesWellFormed : Prop :=
  (∀ e : Encoding, wellFormed (decode e) = true) ∧
  (∀ w : BusWord, ∃ r, tableRow (decodeBus w) = some r ∧ w &&& r.2 = r.1) ∧
  (∀ f : List Byte, f.length < 6 → decodeFrame f = .rxTrunc f) ∧
  (∀ (h : Header) (p : List Byte),
    (validate ⟨h, p⟩ = false → decodeFrame (frameBytes ⟨h, p⟩) = .rxBadsum h p) ∧
    (validate ⟨h, p⟩ = true → p = [0x41#8, 0x43#8, 0x4B#8] → decodeFrame (frameBytes ⟨h, p⟩) = .rxAck h) ∧
    (validate ⟨h, p⟩ = true → p ≠ [0x41#8, 0x43#8, 0x4B#8] → decodeFrame (frameBytes ⟨h, p⟩) = .rxData h p)) ∧
  decode (.grant .data) = .txDataFrame ∧ decode (.grant .ack) = .txAckFrame

/-- R310, R300: encoding what a write word, a read word with DATA 0 or a frame decodes to gives it back. -/
def Obligations.EncodeOfDecodeIsTheEncoding : Prop :=
  (∀ w : BusWord, wordWe w = true → encode (decodeBus w) = .bus w) ∧
  (∀ a : Addr, encode (decodeBus (busWord false a 0#8)) = .bus (busWord false a 0#8)) ∧
  (∀ f : List Byte, encode (decodeFrame f) = .frame f)

/-- R310, R320, R323: words and frames written out from the spec decode to what they stand for; a word of more
than 19 bits is refused, which is the model's choice (log entry 13). -/
def Obligations.WrittenOutWordsDecode : Prop :=
  decodeTableWord 24 0x00B00 = some (.rd 0x00B#10) ∧
  decodeTableWord 24 0x40203 = some (.wrCtrl 0x03#8) ∧
  decodeTableWord 24 0x42455 = some (.wrCntRxTrunc 0x55#8) ∧
  decodeTableWord 24 0x50048 = some (.wrTxBuf 0x00#8 0x48#8) ∧
  decodeTableWord 24 0x5FF00 = some (.wrIgnored 0x1FF#10 0x00#8) ∧
  decodeTableWord 24 0x40301 = some .send ∧
  decodeTableWord 24 0x4030F = some .softReset ∧
  decodeTableWord 24 0x40305 = some (.cmdIllegal 0x05#8) ∧
  decodeTableWord 24 0x80000 = none ∧
  decodeFrame [0x00#8, 0x03#8, 0x00#8, 0x01#8, 0x03#8, 0xD6#8, 0x41#8, 0x43#8, 0x4B#8] =
    .rxAck ⟨0x00#8, 0x03#8, 0x00#8, 0x01#8, 0x03#8, 0xD6#8⟩

/-! ### Frame codec -/

/-- R459: the round trip of the codec, checksum and validity included. -/
def Obligations.EncodedFrameDecodesAndValidates : Prop :=
  ∀ (m s d a : Byte) (p : List Byte), 1 ≤ p.length → p.length ≤ 255 →
    ∃ f fr, encodeFrame m.toNat s.toNat d.toNat a.toNat p = .ok f ∧ decodeBytes f = .ok fr ∧
      fr.hdr.mcs = m ∧ fr.hdr.len = BitVec.ofNat 8 p.length ∧ fr.hdr.len.toNat = p.length ∧
      fr.hdr.seq = s ∧ fr.hdr.dest = d ∧ fr.hdr.src = a ∧ fr.payload = p ∧
      fr.hdr.cksum = checksum m (BitVec.ofNat 8 p.length) s d a p ∧ validate fr = true

/-- R452, R453, R454: ENCODE fails with InvalidFieldRange exactly when a field or the payload length is out of
range; DECODE fails with TruncatedHeader exactly below six bytes, and otherwise reads by position. -/
def Obligations.CodecErrorsAreExact : Prop :=
  (∀ (mcs seq dest src : Nat) (p : List Byte),
    encodeFrame mcs seq dest src p = .error .invalidFieldRange ↔
      (255 < mcs ∨ 255 < seq ∨ 255 < dest ∨ 255 < src ∨ p.length = 0 ∨ 255 < p.length)) ∧
  ∀ f : List Byte,
    (f.length < 6 → decodeBytes f = .error .truncatedHeader) ∧
    (6 ≤ f.length → ∃ fr, decodeBytes f = .ok fr ∧ frameBytes fr = f ∧ fr.payload = f.drop 6 ∧
      f[0]? = some fr.hdr.mcs ∧ f[1]? = some fr.hdr.len ∧ f[2]? = some fr.hdr.seq ∧
      f[3]? = some fr.hdr.dest ∧ f[4]? = some fr.hdr.src ∧ f[5]? = some fr.hdr.cksum)

/-- R460(a): a single-bit flip anywhere in a valid frame makes VALIDATE false. -/
def Obligations.SingleBitFlipsAreDetected : Prop :=
  ∀ (fr : Frame) (i j : Nat), validate fr = true → i < (frameBytes fr).length → j < 8 →
    ∃ fr', decodeBytes ((frameBytes fr).set i ((frameBytes fr).getD i 0#8 ^^^ BitVec.ofNat 8 (2 ^ j))) =
      .ok fr' ∧ validate fr' = false

/-- R458, R304: BUILD_ACK gives the nine bytes of the ack form, a valid ack with the addresses swapped. -/
def Obligations.BuiltAckHasTheWireForm : Prop :=
  ∀ (fr : Frame) (node : Byte),
    let c := BitVec.ofNat 8
      (fr.hdr.mcs.toNat + 3 + fr.hdr.seq.toNat + fr.hdr.src.toNat + node.toNat + 207)
    buildAck fr node =
      .ok [fr.hdr.mcs, 0x03#8, fr.hdr.seq, fr.hdr.src, node, c, 0x41#8, 0x43#8, 0x4B#8] ∧
    decodeFrame [fr.hdr.mcs, 0x03#8, fr.hdr.seq, fr.hdr.src, node, c, 0x41#8, 0x43#8, 0x4B#8] =
      .rxAck ⟨fr.hdr.mcs, 0x03#8, fr.hdr.seq, fr.hdr.src, node, c⟩

/-! ### The host bus -/

/-- R650: what every HOST address reads as. -/
def Obligations.ReadMapOfTheHostSpace : Prop :=
  ∀ s : State,
    s.read 0x000#10 = 0x45#8 ∧ s.read 0x001#10 = 0x01#8 ∧ s.read 0x002#10 = s.regs.ctrl &&& 0x07#8 ∧
    s.read 0x003#10 = 0x00#8 ∧ s.read 0x004#10 = s.regs.status ∧ s.read 0x005#10 = s.regs.irqEn ∧
    s.read 0x006#10 = s.regs.nodeAddr ∧ s.read 0x007#10 = s.regs.seq ∧
    s.read 0x008#10 = s.regs.txMcs ∧ s.read 0x009#10 = s.regs.txDest ∧ s.read 0x00A#10 = s.regs.txLen ∧
    s.read 0x00B#10 = s.txStateByte ∧ s.read 0x00C#10 = s.snd.attempt ∧
    s.read 0x00D#10 = s.regs.txFailCode ∧
    s.read 0x00E#10 = s.regs.ackTimeoutLo ∧ s.read 0x00F#10 = s.regs.ackTimeoutHi ∧
    s.read 0x010#10 = s.regs.frameTimeLo ∧ s.read 0x011#10 = s.regs.frameTimeHi ∧
    s.read 0x012#10 = s.rxStatByte ∧ s.read 0x013#10 = s.regs.rxHdr.mcs ∧
    s.read 0x014#10 = s.regs.rxHdr.len ∧ s.read 0x015#10 = s.regs.rxHdr.seq ∧
    s.read 0x016#10 = s.regs.rxHdr.dest ∧ s.read 0x017#10 = s.regs.rxHdr.src ∧
    s.read 0x018#10 = s.regs.rxHdr.cksum ∧ s.read 0x019#10 = s.regs.rxCount ∧
    s.read 0x01A#10 = s.regs.rxDropCode ∧ s.read 0x01B#10 = s.regs.cmdErrCode ∧
    s.read 0x01C#10 = s.snd.csum ∧
    s.read 0x020#10 = s.cnt.txData ∧ s.read 0x021#10 = s.cnt.txAck ∧ s.read 0x022#10 = s.cnt.rxDeliv ∧
    s.read 0x023#10 = s.cnt.rxCksum ∧ s.read 0x024#10 = s.cnt.rxTrunc ∧ s.read 0x025#10 = s.cnt.rxFilt ∧
    s.read 0x026#10 = s.cnt.rxOverrun ∧ s.read 0x027#10 = s.cnt.timeout ∧ s.read 0x028#10 = s.cnt.rxAck ∧
    (∀ i : Nat, i < 255 → s.read (BitVec.ofNat 10 (0x100 + i)) = s.txBufByte i) ∧
    (∀ i : Nat, i < 255 → s.read (BitVec.ofNat 10 (0x200 + i)) = s.rxBufByte i) ∧
    (∀ a : Addr, (0x01D ≤ a.toNat ∧ a.toNat ≤ 0x01F) ∨ (0x029 ≤ a.toNat ∧ a.toNat ≤ 0x0FF) ∨
      a.toNat = 0x1FF ∨ 0x2FF ≤ a.toNat → s.read a = 0x00#8)

/-- R112, R117, R500, R650: the fields of the two view registers. -/
def Obligations.ViewRegisterFields : Prop :=
  ∀ s : State,
    (s.txStateByte &&& 0x07#8 = s.snd.st.code ∧ s.txStateByte.getLsbD 3 = s.snd.frameReady ∧
      s.txStateByte.getLsbD 4 = s.snd.abortPend ∧ s.txStateByte.getLsbD 5 = s.snd.started ∧
      s.txStateByte.getLsbD 6 = false ∧ s.txStateByte.getLsbD 7 = false) ∧
    (SenderState.idle.code = 0#8 ∧ SenderState.sending.code = 1#8 ∧ SenderState.awaitingAck.code = 2#8 ∧
      SenderState.delivered.code = 3#8 ∧ SenderState.backingOff.code = 4#8) ∧
    (s.rxStatByte.getLsbD 0 = s.regs.rxValid ∧ s.rxStatByte.getLsbD 1 = s.regs.rxAcked ∧
      s.rxStatByte.getLsbD 2 = s.regs.rxLenmm ∧ s.rxStatByte.getLsbD 3 = s.ack.pend ∧
      (s.rxStatByte.getLsbD 4 = true ↔ 0 < s.asm.n.toNat) ∧ s.rxStatByte.getLsbD 5 = s.asm.discard ∧
      s.rxStatByte.getLsbD 6 = s.eng.busy ∧ s.rxStatByte.getLsbD 7 = false)

/-- R650, R411, R209: RD shows the byte on the read port and changes nothing of the block. -/
def Obligations.ReadShowsTheByteAndKeepsTheBlock : Prop :=
  ∀ (a : Addr) (s : State),
    exec (.rd a) s = .next { s with out := { s.out with busRdata := s.read a } }

/-- R652, R513, R512: WR_CTRL stores bits 2:0; clearing ENABLE empties the ack slot and aborts a send. -/
def Obligations.ControlWriteStoresAndDisables : Prop :=
  ∀ (v : Byte) (s : State),
    let stored : Regs := { s.regs with ctrl := v &&& 0x07#8 }
    let emptied : AckSlot := { s.ack with pend := false }
    (¬(s.enable = true ∧ v.getLsbD 0 = false) → exec (.wrCtrl v) s = .next { s with regs := stored }) ∧
    (s.enable = true → v.getLsbD 0 = false → s.snd.st = .idle ∨ s.snd.st = .delivered →
      exec (.wrCtrl v) s = .next { s with regs := stored, ack := emptied }) ∧
    (s.enable = true → v.getLsbD 0 = false → s.snd.st = .sending → s.snd.started = true →
      s.eng.busy = true → s.eng.kind = .data →
      exec (.wrCtrl v) s =
        .next { s with regs := stored, ack := emptied, snd := { s.snd with abortPend := true } }) ∧
    (s.enable = true → v.getLsbD 0 = false →
      (s.snd.st = .sending ∧ (s.snd.started = false ∨ s.eng.busy = false ∨ s.eng.kind = .ack)) ∨
        s.snd.st = .awaitingAck ∨ s.snd.st = .backingOff →
      exec (.wrCtrl v) s =
        .next { s with
          regs := { stored with txFailCode := 3#8 }
          ack := emptied
          snd := { s.snd with
            st := .idle, started := false, abortPend := false, frameReady := false,
            elapsed := 0, remaining := 0 }
          cyc := { s.cyc with setmask := s.cyc.setmask ||| 0x02#8 } })

/-- R655, R656, R657, R406: the STATUS write hands its byte to the end of the cycle as the clear mask; IRQ_EN and
the four timing bytes are stored, never locked. -/
def Obligations.UnlockedRegisterWritesTakeTheByte : Prop :=
  ∀ (v : Byte) (s : State),
    exec (.wrStatus v) s = .next { s with cyc := { s.cyc with w1c := v } } ∧
    exec (.wrIrqEn v) s = .next { s with regs := { s.regs with irqEn := v } } ∧
    exec (.wrAckTimeoutLo v) s = .next { s with regs := { s.regs with ackTimeoutLo := v } } ∧
    exec (.wrAckTimeoutHi v) s = .next { s with regs := { s.regs with ackTimeoutHi := v } } ∧
    exec (.wrFrameTimeLo v) s = .next { s with regs := { s.regs with frameTimeLo := v } } ∧
    exec (.wrFrameTimeHi v) s = .next { s with regs := { s.regs with frameTimeHi := v } }

/-- R658, R123: a counter write clears its counter whatever the byte, and no other counter. -/
def Obligations.CounterWritesClearTheirCounter : Prop :=
  ∀ (v : Byte) (s : State),
    exec (.wrCntTxData v) s = .next { s with cnt := { s.cnt with txData := 0x00#8 } } ∧
    exec (.wrCntTxAck v) s = .next { s with cnt := { s.cnt with txAck := 0x00#8 } } ∧
    exec (.wrCntRxDeliv v) s = .next { s with cnt := { s.cnt with rxDeliv := 0x00#8 } } ∧
    exec (.wrCntRxCksum v) s = .next { s with cnt := { s.cnt with rxCksum := 0x00#8 } } ∧
    exec (.wrCntRxTrunc v) s = .next { s with cnt := { s.cnt with rxTrunc := 0x00#8 } } ∧
    exec (.wrCntRxFilt v) s = .next { s with cnt := { s.cnt with rxFilt := 0x00#8 } } ∧
    exec (.wrCntRxOverrun v) s = .next { s with cnt := { s.cnt with rxOverrun := 0x00#8 } } ∧
    exec (.wrCntTimeout v) s = .next { s with cnt := { s.cnt with timeout := 0x00#8 } } ∧
    exec (.wrCntRxAck v) s = .next { s with cnt := { s.cnt with rxAck := 0x00#8 } }

/-- R653, R109: NODE_ADDR is stored while ENABLE = 0; while ENABLE = 1 the write is refused as LockedWrite. -/
def Obligations.NodeAddressWriteObeysItsLock : Prop :=
  ∀ (v : Byte) (s : State),
    (s.enable = false →
      exec (.wrNodeAddr v) s = .next { s with regs := { s.regs with nodeAddr := v } }) ∧
    (s.enable = true →
      exec (.wrNodeAddr v) s =
        .next { s with
          regs := { s.regs with cmdErrCode := 3#8 }
          cyc := { s.cyc with setmask := s.cyc.setmask ||| 0x20#8 } })

/-- R654, R111: TX_MCS, TX_DEST and TX_LEN are stored while the sender is Idle, else refused. -/
def Obligations.TxRegisterWritesObeyTheirLock : Prop :=
  ∀ (v : Byte) (s : State),
    (s.snd.st = .idle →
      exec (.wrTxMcs v) s = .next { s with regs := { s.regs with txMcs := v } } ∧
      exec (.wrTxDest v) s = .next { s with regs := { s.regs with txDest := v } } ∧
      exec (.wrTxLen v) s = .next { s with regs := { s.regs with txLen := v } }) ∧
    (s.snd.st ≠ .idle →
      ∀ i, i = Instr.wrTxMcs v ∨ i = Instr.wrTxDest v ∨ i = Instr.wrTxLen v →
      exec i s =
        .next { s with
          regs := { s.regs with cmdErrCode := 3#8 }
          cyc := { s.cyc with setmask := s.cyc.setmask ||| 0x20#8 } })

/-- R654, R130, R322: a TX_BUF write while Idle stores its one byte and no other; it is refused while the
sender is not Idle. Index 255, which no word decodes to, changes nothing: that is the model's choice (log entry
8), in line with the reserved address 0x1FF, whose words decode to an ignored write. -/
def Obligations.TxBufferWriteStoresOneByte : Prop :=
  ∀ (idx v : Byte) (s : State),
    (idx.toNat < 255 → s.snd.st = .idle →
      ∃ t, exec (.wrTxBuf idx v) s = .next t ∧ t = { s with mem := t.mem } ∧
        t.read (BitVec.ofNat 10 (txBufBase + idx.toNat)) = v ∧
        ∀ a : Addr, a.toNat ≠ txBufBase + idx.toNat → t.read a = s.read a) ∧
    (idx.toNat < 255 → s.snd.st ≠ .idle →
      exec (.wrTxBuf idx v) s =
        .next { s with
          regs := { s.regs with cmdErrCode := 3#8 }
          cyc := { s.cyc with setmask := s.cyc.setmask ||| 0x20#8 } }) ∧
    (idx.toNat = 255 → exec (.wrTxBuf idx v) s = .next s)

/-- R660, R651, R322: NOP (code 0x00, word 0x40300) and an ignored write, at every address of its row, have no
effect and no event. -/
def Obligations.NopAndIgnoredWritesChangeNothing : Prop :=
  decodeBus 0x40300#19 = .nop ∧ (∀ s : State, exec .nop s = .next s) ∧
  (∀ (a : Addr) (v : Byte) (s : State), exec (.wrIgnored a v) s = .next s) ∧
  (∀ (a : Addr) (v : Byte),
    a.toNat ∈ [0x000, 0x001, 0x007, 0x00B, 0x00C, 0x00D, 0x012, 0x013, 0x014, 0x015, 0x016, 0x017, 0x018,
      0x019, 0x01A, 0x01B, 0x01C, 0x01D, 0x01E, 0x01F] ∨
      (0x029 ≤ a.toNat ∧ a.toNat ≤ 0x0FF) ∨ 0x1FF ≤ a.toNat →
    decodeBus (busWord true a v) = .wrIgnored a v)

/-- R661, R321: every unassigned command code is illegal; it raises CmdError(IllegalCommand) and changes
nothing else. -/
def Obligations.IllegalCommandRaisesOnlyItsError : Prop :=
  (∀ c : Byte, (0x05 ≤ c.toNat ∧ c.toNat ≤ 0x0E) ∨ 0x10 ≤ c.toNat →
    decodeBus (busWord true 0x003#10 c) = .cmdIllegal c) ∧
  (∀ (c : Byte) (s : State),
    exec (.cmdIllegal c) s =
      .next { s with
        regs := { s.regs with cmdErrCode := 1#8 }
        cyc := { s.cyc with setmask := s.cyc.setmask ||| 0x20#8 } })

/-- R662, R801: SOFT_RESET gives the reset state, whatever the state was: every register and hidden field at
its reset value, the buffers unspecified, the cycle's events discarded. -/
def Obligations.SoftResetGivesTheResetState : Prop :=
  ∀ s : State, ∃ t, exec .softReset s = .next t ∧
    t.regs = State.reset.regs ∧ t.cnt = State.reset.cnt ∧ t.snd = State.reset.snd ∧
    t.ack = State.reset.ack ∧ t.eng = State.reset.eng ∧ t.asm = State.reset.asm ∧ t.mem = [] ∧
    t.cyc = CycleLocals.none ∧ t.inputs = s.inputs

/-! ### Commands of the sender and the receiver -/

/-- R501: SEND, when its four checks pass, latches the header, starts the sum and enters Sending; nothing
else changes. -/
def Obligations.SendStartsTheTransmission : Prop :=
  ∀ s : State, s.now.chanErr = false → s.enable = true → s.snd.st = .idle → s.regs.txLen ≠ 0x00#8 →
    exec .send s =
      .next { s with
        regs := { s.regs with txFailCode := 0x00#8 }
        snd :=
          { st := .sending
            hdrL := ⟨s.regs.txMcs, s.regs.txLen, s.regs.seq, s.regs.txDest, s.regs.nodeAddr⟩
            csum := BitVec.ofNat 8 (s.regs.txMcs.toNat + s.regs.txLen.toNat + s.regs.seq.toNat +
              s.regs.txDest.toNat + s.regs.nodeAddr.toNat)
            prepIdx := 0
            frameReady := false
            started := false
            abortPend := false
            attempt := 1
            elapsed := 0
            remaining := 0 } }

/-- R501, R706(a): a SEND that fails a check reports the first one alone, in the rule's order. -/
def Obligations.SendReportsItsFirstFailedCheck : Prop :=
  ∀ s : State,
    let failed (c : Byte) : State :=
      { s with
        regs := { s.regs with txFailCode := c }
        cyc := { s.cyc with setmask := s.cyc.setmask ||| 0x02#8 } }
    let refused (c : Byte) : State :=
      { s with
        regs := { s.regs with cmdErrCode := c }
        cyc := { s.cyc with setmask := s.cyc.setmask ||| 0x20#8 } }
    (s.now.chanErr = true → exec .send s = .next (failed 2#8)) ∧
    (s.now.chanErr = false → s.enable = false → exec .send s = .next (refused 4#8)) ∧
    (s.now.chanErr = false → s.enable = true → s.snd.st ≠ .idle → exec .send s = .next (refused 2#8)) ∧
    (s.now.chanErr = false → s.enable = true → s.snd.st = .idle → s.regs.txLen = 0x00#8 →
      exec .send s = .next (failed 1#8))

/-- R512: ABORT by the sender's state: nothing, a pending abort, or Idle with code Aborted; SEQ, the TX
registers and TX_BUF are kept. -/
def Obligations.AbortEndsOrMarksTheSend : Prop :=
  ∀ s : State,
    (s.snd.st = .idle ∨ s.snd.st = .delivered → exec .abort s = .next s) ∧
    (s.snd.st = .sending → s.snd.started = true → s.eng.busy = true → s.eng.kind = .data →
      exec .abort s = .next { s with snd := { s.snd with abortPend := true } }) ∧
    ((s.snd.st = .sending ∧ (s.snd.started = false ∨ s.eng.busy = false ∨ s.eng.kind = .ack)) ∨
        s.snd.st = .awaitingAck ∨ s.snd.st = .backingOff →
      exec .abort s =
        .next { s with
          regs := { s.regs with txFailCode := 3#8 }
          snd := { s.snd with
            st := .idle, started := false, abortPend := false, frameReady := false,
            elapsed := 0, remaining := 0 }
          cyc := { s.cyc with setmask := s.cyc.setmask ||| 0x02#8 } })

/-- R558: RX_RELEASE frees the held frame; with none held it is refused as NoFrame. -/
def Obligations.ReleaseFreesTheHeldFrame : Prop :=
  ∀ s : State,
    (s.regs.rxValid = true →
      exec .rxRelease s = .next { s with regs := { s.regs with rxValid := false, rxAcked := false } }) ∧
    (s.regs.rxValid = false →
      exec .rxRelease s =
        .next { s with
          regs := { s.regs with cmdErrCode := 5#8 }
          cyc := { s.cyc with setmask := s.cyc.setmask ||| 0x20#8 } })

/-- R559, R560: RX_ACCEPT posts the ack of a held frame and frees it; a frame already acknowledged is only
freed; the refusals come in the order NoFrame, Disabled, Busy. -/
def Obligations.AcceptPostsTheAckAndFrees : Prop :=
  ∀ s : State,
    let refused (c : Byte) : State :=
      { s with
        regs := { s.regs with cmdErrCode := c }
        cyc := { s.cyc with setmask := s.cyc.setmask ||| 0x20#8 } }
    let freed : Regs := { s.regs with rxValid := false, rxAcked := false }
    (s.regs.rxValid = true → s.regs.rxAcked = false → s.enable = true → s.ack.pend = false →
      exec .rxAccept s =
        .next { s with
          regs := freed
          ack := ⟨true, s.regs.rxHdr.mcs, s.regs.rxHdr.seq, s.regs.rxHdr.src⟩ }) ∧
    (s.regs.rxValid = true → s.regs.rxAcked = true → exec .rxAccept s = .next { s with regs := freed }) ∧
    (s.regs.rxValid = false → exec .rxAccept s = .next (refused 5#8)) ∧
    (s.regs.rxValid = true → s.regs.rxAcked = false → s.enable = false →
      exec .rxAccept s = .next (refused 4#8)) ∧
    (s.regs.rxValid = true → s.regs.rxAcked = false → s.enable = true → s.ack.pend = true →
      exec .rxAccept s = .next (refused 2#8))

/-! ### Inbound frames -/

/-- R553, R554: a truncated frame and a frame with a bad checksum are dropped with codes 1 and 2, each
counted once; nothing else changes, and no ack matches. -/
def Obligations.InvalidFramesAreDroppedAndCounted : Prop :=
  ∀ (f : List Byte) (h : Header) (p : List Byte) (s : State), s.enable = true →
    exec (.rxTrunc f) s =
      .next { s with
        regs := { s.regs with rxDropCode := 1#8 }
        cnt := { s.cnt with rxTrunc := s.cnt.rxTrunc + 1#8 }
        cyc := { s.cyc with setmask := s.cyc.setmask ||| 0x08#8, ackMatch := false } } ∧
    exec (.rxBadsum h p) s =
      .next { s with
        regs := { s.regs with rxDropCode := 2#8 }
        cnt := { s.cnt with rxCksum := s.cnt.rxCksum + 1#8 }
        cyc := { s.cyc with setmask := s.cyc.setmask ||| 0x08#8, ackMatch := false } }

/-- R555, R505: a valid ack is counted and tested for the match, by sequence number alone; nothing else
changes. -/
def Obligations.AckFrameIsCountedAndMatched : Prop :=
  ∀ (h : Header) (s : State), s.enable = true →
    exec (.rxAck h) s =
      .next { s with
        cnt := { s.cnt with rxAck := s.cnt.rxAck + 1#8 }
        cyc := { s.cyc with
          ackMatch := decide (s.snd.st = .awaitingAck ∧ h.seq = s.snd.hdrL.seq) } }

/-- R553, R554, R703: a valid data frame that cannot be delivered is dropped for the first cause of the
rule's order, with its code and its counter. R214, R553: while a frame is held, a step without a release, an accept
or a reset keeps it whole, its header registers, RX_COUNT, the held bits and RX_BUF. -/
def Obligations.DataFrameIsDroppedForItsFirstCause : Prop :=
  (∀ (h : Header) (p : List Byte) (s : State), s.enable = true →
    let dropped (code : Byte) (k : Counters) : State :=
      { s with
        regs := { s.regs with rxDropCode := code }
        cnt := k
        cyc := { s.cyc with setmask := s.cyc.setmask ||| 0x08#8, ackMatch := false } }
    let filtered : Counters := { s.cnt with rxFilt := s.cnt.rxFilt + 1#8 }
    (h.dest ≠ s.regs.nodeAddr → exec (.rxData h p) s = .next (dropped 3#8 filtered)) ∧
    (h.dest = s.regs.nodeAddr → 255 < p.length → exec (.rxData h p) s = .next (dropped 4#8 filtered)) ∧
    (h.dest = s.regs.nodeAddr → p.length ≤ 255 → s.strictLen = true → h.len.toNat ≠ p.length →
      exec (.rxData h p) s = .next (dropped 5#8 filtered)) ∧
    (h.dest = s.regs.nodeAddr → p.length ≤ 255 → (s.strictLen = true → h.len.toNat = p.length) →
      s.regs.rxValid = true ∨ (s.autoAck = true ∧ s.ack.pend = true) →
      exec (.rxData h p) s =
        .next (dropped 6#8 { s.cnt with rxOverrun := s.cnt.rxOverrun + 1#8 }))) ∧
  (∀ s t : State, s.regs.rxValid = true → s.now.rst = false →
    s.hostWrite? ≠ some .rxRelease → s.hostWrite? ≠ some .rxAccept → s.hostWrite? ≠ some .softReset →
    step s = .next t →
    t.regs.rxValid = true ∧ t.regs.rxAcked = s.regs.rxAcked ∧ t.regs.rxLenmm = s.regs.rxLenmm ∧
      t.regs.rxHdr = s.regs.rxHdr ∧ t.regs.rxCount = s.regs.rxCount ∧
      ∀ j, j < 255 → t.read (BitVec.ofNat 10 (rxBufBase + j)) = s.read (BitVec.ofNat 10 (rxBufBase + j)))

/-- R553, R556, R560, R131: a valid data frame for this node that the block has room for is delivered: the RX
registers and RX_BUF[0..n) take it, the held bits are set, the delivery is counted, with AUTO_ACK the ack is
posted; TX_BUF, the sender, the engine and the assembler are unchanged. RX_BUF at n and above is any value
after a delivery (R131, U2; log entry 5), so nothing is said of it. -/
def Obligations.DataFrameIsDelivered : Prop :=
  ∀ (h : Header) (p : List Byte) (s : State), s.enable = true → h.dest = s.regs.nodeAddr →
    p.length ≤ 255 → (s.strictLen = true → h.len.toNat = p.length) → s.regs.rxValid = false →
    (s.autoAck = true → s.ack.pend = false) →
    ∃ t, exec (.rxData h p) s = .next t ∧
      t.regs =
        { s.regs with
          rxHdr := h
          rxCount := BitVec.ofNat 8 p.length
          rxValid := true
          rxAcked := s.autoAck
          rxLenmm := decide (h.len.toNat ≠ p.length) } ∧
      t.cnt = { s.cnt with rxDeliv := s.cnt.rxDeliv + 1#8 } ∧
      t.ack = (if s.autoAck then ⟨true, h.mcs, h.seq, h.src⟩ else s.ack) ∧
      t.cyc = { s.cyc with setmask := s.cyc.setmask ||| 0x04#8, ackMatch := false } ∧
      (∀ j, j < p.length → p[j]? = some (t.read (BitVec.ofNat 10 (rxBufBase + j)))) ∧
      (∀ i, i < 255 →
        t.read (BitVec.ofNat 10 (txBufBase + i)) = s.read (BitVec.ofNat 10 (txBufBase + i))) ∧
      t.snd = s.snd ∧ t.eng = s.eng ∧ t.asm = s.asm ∧ t.inputs = s.inputs ∧ t.cycle = s.cycle ∧
      t.epoch = s.epoch ∧ t.out = s.out

/-- R551, R714: while ENABLE = 0 an inbound frame of any class is discarded with no event and no counter. That the
meaning of a frame row carries this gate itself is the model's choice (log entry 9). -/
def Obligations.DisabledBlockIgnoresFrames : Prop :=
  ∀ (f : List Byte) (s : State), s.enable = false → exec (decodeFrame f) s = .next s

/-! ### Outbound frames -/

/-- R604, R603, R304: the ack frame is loaded when the port is free, ENABLE = 1, the transport is available
and an ack is posted; in every other state nothing is loaded (the row carries the arbiter's test: log entry 10). -/
def Obligations.AckFrameIsLoadedWhenGranted : Prop :=
  ∀ s : State,
    (s.eng.busy = false → s.enable = true → s.now.chanErr = false → s.ack.pend = true →
      exec .txAckFrame s =
        .next { s with
          eng :=
            { busy := true
              kind := .ack
              hdr :=
                { mcs := s.ack.mcs
                  len := 0x03#8
                  seq := s.ack.seq
                  dest := s.ack.dest
                  src := s.regs.nodeAddr
                  cksum := BitVec.ofNat 8 (s.ack.mcs.toNat + 3 + s.ack.seq.toNat + s.ack.dest.toNat +
                    s.regs.nodeAddr.toNat + 0x41 + 0x43 + 0x4B) }
              plen := 0x03#8
              idx := 0 }
          ack := { s.ack with pend := false } }) ∧
    (¬(s.eng.busy = false ∧ s.enable = true ∧ s.now.chanErr = false ∧ s.ack.pend = true) →
      exec .txAckFrame s = .next s)

/-- R605, R603: the data frame is loaded when the port is free, ENABLE = 1, the transport is available, no
ack is posted and a prepared attempt of a send in Sending has not started; in every other state nothing is
loaded (the row carries the arbiter's test: log entry 10). -/
def Obligations.DataFrameIsLoadedWhenGranted : Prop :=
  ∀ s : State,
    let ready : Prop :=
      s.eng.busy = false ∧ s.enable = true ∧ s.now.chanErr = false ∧ s.ack.pend = false ∧
        s.snd.st = .sending ∧ s.snd.frameReady = true ∧ s.snd.started = false ∧ s.snd.abortPend = false
    (ready →
      exec .txDataFrame s =
        .next { s with
          eng :=
            { busy := true
              kind := .data
              hdr := ⟨s.snd.hdrL.mcs, s.snd.hdrL.len, s.snd.hdrL.seq, s.snd.hdrL.dest, s.snd.hdrL.src,
                s.snd.csum⟩
              plen := s.snd.hdrL.len
              idx := 0 }
          snd := { s.snd with started := true } }) ∧
    (¬ready → exec .txDataFrame s = .next s)

/-- R602, R407: a transfer that is not the last moves one byte on; the last byte ends the frame, is counted
for its kind and reported to the sender, and of an ack raises ACK_SENT; without a transfer nothing changes. -/
def Obligations.HandshakeMovesOneByte : Prop :=
  ∀ s : State,
    (s.eng.busy = false ∨ s.now.txTready = false → handshake s = s) ∧
    (s.eng.busy = true → s.now.txTready = true → s.eng.idx.toNat ≠ s.eng.plen.toNat + 5 →
      handshake s = { s with eng := { s.eng with idx := s.eng.idx + 1 } }) ∧
    (s.eng.busy = true → s.now.txTready = true → s.eng.idx.toNat = s.eng.plen.toNat + 5 →
      s.eng.kind = .data →
      handshake s =
        { s with
          eng := { s.eng with busy := false, idx := 0 }
          cnt := { s.cnt with txData := s.cnt.txData + 1#8 }
          cyc := { s.cyc with txDone := some .data } }) ∧
    (s.eng.busy = true → s.now.txTready = true → s.eng.idx.toNat = s.eng.plen.toNat + 5 →
      s.eng.kind = .ack →
      handshake s =
        { s with
          eng := { s.eng with busy := false, idx := 0 }
          cnt := { s.cnt with txAck := s.cnt.txAck + 1#8 }
          cyc := { s.cyc with txDone := some .ack, setmask := s.cyc.setmask ||| 0x80#8 } })

/-- R603, R602: after the handshake P4 runs the row of the frame the arbiter grants, an ack before a data frame;
with no grant it loads nothing. -/
def Obligations.TransmitPhaseRunsTheGrantedFrame : Prop :=
  ∀ s : State,
    let u := handshake s
    let portOpen : Prop := u.eng.busy = false ∧ u.enable = true ∧ u.now.chanErr = false
    let prepared : Prop :=
      u.snd.st = .sending ∧ u.snd.frameReady = true ∧ u.snd.started = false ∧ u.snd.abortPend = false
    (portOpen → u.ack.pend = true → txPhase s = exec .txAckFrame u) ∧
    (portOpen → u.ack.pend = false → prepared → txPhase s = exec .txDataFrame u) ∧
    (¬portOpen ∨ (u.ack.pend = false ∧ ¬prepared) → txPhase s = .next u)

/-- R601, R600, R402: the byte on the TX port is byte h.eng_idx of the frame the engine is presenting, and
tlast stands on the frame's last byte alone. -/
def Obligations.PortShowsTheEngineFrameByteByByte : Prop :=
  ∀ s : State, s.eng.busy = true → (s.eng.kind = .ack → s.eng.plen = 0x03#8) →
    s.eng.idx.toNat ≤ s.eng.plen.toNat + 5 →
    s.engineFrame.length = 6 + s.eng.plen.toNat ∧
    s.portSample.txTvalid = true ∧
    s.engineFrame[s.eng.idx.toNat]? = some s.portSample.txTdata ∧
    (s.portSample.txTlast = true ↔ s.eng.idx.toNat + 1 = s.engineFrame.length)

/-! ### The sender FSM -/

/-- R502, R462: the checksum pass takes exactly h.hdr_l[1] cycles and leaves the frame's checksum. -/
def Obligations.ChecksumPassSumsThePayload : Prop :=
  ∀ s : State, s.snd.st = .sending → s.snd.frameReady = false → s.snd.prepIdx = 0 →
    1 ≤ s.snd.hdrL.len.toNat → s.snd.csum = s.sendChecksum 0 →
    (∀ k, k < s.snd.hdrL.len.toNat → (senderPhase^[k] s).snd.frameReady = false) ∧
    senderPhase^[s.snd.hdrL.len.toNat] s =
      { s with
        snd := { s.snd with
          csum := s.sendChecksum s.snd.hdrL.len.toNat
          prepIdx := s.snd.hdrL.len
          frameReady := true } }

/-- R504: in AwaitingAck a match delivers (and wins over a tick), a tick before the last one counts, no tick
changes nothing. -/
def Obligations.AwaitingAckDeliversOrCounts : Prop :=
  ∀ s : State, s.snd.st = .awaitingAck →
    (s.cyc.ackMatch = true →
      senderPhase s =
        { s with
          regs := { s.regs with seq := s.regs.seq + 1#8 }
          snd := { s.snd with st := .delivered }
          cyc := { s.cyc with setmask := s.cyc.setmask ||| 0x01#8 } }) ∧
    (s.cyc.ackMatch = false → s.now.tick = false → senderPhase s = s) ∧
    (s.cyc.ackMatch = false → s.now.tick = true → s.snd.elapsed.toNat + 1 < s.toEff →
      senderPhase s =
        { s with snd := { s.snd with elapsed := BitVec.ofNat 16 (s.snd.elapsed.toNat + 1) } })

/-- R503, R510, R511: Sending with the frame ready waits for the data frame's last byte, then waits for the ack,
or fails with Aborted if an abort is pending; BackingOff counts ticks down and then returns to Sending;
Delivered goes to Idle; Idle stays. -/
def Obligations.SenderPhaseInItsOtherStates : Prop :=
  ∀ s : State,
    let idled : Sender :=
      { s.snd with
        st := .idle, started := false, abortPend := false, frameReady := false, elapsed := 0, remaining := 0 }
    (s.snd.st = .sending → s.snd.frameReady = true → s.cyc.txDone ≠ some .data → senderPhase s = s) ∧
    (s.snd.st = .sending → s.snd.frameReady = true → s.cyc.txDone = some .data → s.snd.abortPend = false →
      senderPhase s = { s with snd := { s.snd with st := .awaitingAck, elapsed := 0 } }) ∧
    (s.snd.st = .sending → s.snd.frameReady = true → s.cyc.txDone = some .data → s.snd.abortPend = true →
      senderPhase s =
        { s with
          regs := { s.regs with txFailCode := 3#8 }
          snd := idled
          cyc := { s.cyc with setmask := s.cyc.setmask ||| 0x02#8 } }) ∧
    (s.snd.st = .backingOff → s.snd.remaining = 0 →
      senderPhase s = { s with snd := { s.snd with st := .sending } }) ∧
    (s.snd.st = .backingOff → s.snd.remaining ≠ 0 → s.now.tick = true →
      senderPhase s =
        { s with snd := { s.snd with remaining := BitVec.ofNat 26 (s.snd.remaining.toNat - 1) } }) ∧
    (s.snd.st = .backingOff → s.snd.remaining ≠ 0 → s.now.tick = false → senderPhase s = s) ∧
    (s.snd.st = .delivered → senderPhase s = { s with snd := idled }) ∧
    (s.snd.st = .idle → senderPhase s = s)

/-- R504, R507, R508, R509: the timeout, as one equation: BackingOff with a draw inside the bound for the attempt
number before the increment, the tick counted in elapsed, the attempt and the timeout counted; nothing else
changes, SEQ and the latched frame among it. A legal DRAW is taken as it is; that an illegal one is brought into
the range is the model's choice (log entry 6). -/
def Obligations.TimeoutDrawsInsideTheBound : Prop :=
  ∀ s : State, s.snd.st = .awaitingAck → s.cyc.ackMatch = false → s.now.tick = true →
    s.toEff ≤ s.snd.elapsed.toNat + 1 →
    let bound := (2 ^ min s.snd.attempt.toNat 10 - 1) * max s.frameTime 1
    ∃ r : BitVec 26, (1 ≤ s.snd.attempt.toNat → r.toNat < bound) ∧
      (s.now.draw < bound → r.toNat = s.now.draw) ∧
      senderPhase s =
        { s with
          cnt := { s.cnt with timeout := s.cnt.timeout + 1#8 }
          snd := { s.snd with
            st := .backingOff
            started := false
            attempt := BitVec.ofNat 8 (min (s.snd.attempt.toNat + 1) 255)
            elapsed := BitVec.ofNat 16 (s.snd.elapsed.toNat + 1)
            remaining := r }
          cyc := { s.cyc with setmask := s.cyc.setmask ||| 0x10#8 } }

/-! ### The receive assembler -/

/-- R550, R462: streaming a byte list through the assembler leaves the count, the sum of every byte but byte
5, the header bytes and the payload bytes of the list. -/
def Obligations.StreamingAssemblesTheFrame : Prop :=
  ∀ (a : Assembler) (f : List Byte), a.n = 0 → a.sum = 0 →
    let r := f.foldl Assembler.take a
    r.n.toNat = min f.length 262 ∧
    r.sum = BitVec.ofNat 8 (sumBytes (f.take 5) + sumBytes (f.drop 6)) ∧
    (∀ i, i < 6 → i < f.length → f[i]? = some (headerByte r.hdr i)) ∧
    (∀ j, j < 255 → 6 + j < f.length → memGet? r.stage j = f[6 + j]?) ∧
    r.discard = a.discard

/-- R552, R553, R323, R462: a frame the assembler has taken byte by byte is classified as the decoder
classifies its bytes, and acts so whatever its length (past 255 payload bytes through the model's stand-in
payload, log entry 9). -/
def Obligations.AssembledFrameActsAsItsBytes : Prop :=
  ∀ (s : State) (f : List Byte), f ≠ [] → s.asm.n = 0 → s.asm.sum = 0 →
    let s' : State := { s with asm := f.foldl Assembler.take s.asm }
    (f.length ≤ 261 → s'.completedFrame = decodeFrame f) ∧
    exec s'.completedFrame s' = exec (decodeFrame f) s'

/-- R551: with ENABLE = 0 no frame completes; the assembler is emptied and discards to the next tlast. -/
def Obligations.DisabledIntakeDiscards : Prop :=
  ∀ s : State, s.enable = false →
    (s.now.rxTvalid = true → s.now.rxTlast = true →
      intake s = ({ s with asm := { s.asm with n := 0, sum := 0, discard := false } }, none)) ∧
    (s.now.rxTvalid = true → s.now.rxTlast = false →
      intake s = ({ s with asm := { s.asm with n := 0, sum := 0, discard := true } }, none)) ∧
    (s.now.rxTvalid = false → s.asm.n ≠ 0 →
      intake s = ({ s with asm := { s.asm with n := 0, sum := 0, discard := true } }, none)) ∧
    (s.now.rxTvalid = false → s.asm.n = 0 →
      intake s = ({ s with asm := { s.asm with n := 0, sum := 0 } }, none))

/-- R562: no receive phase changes the sender, SEQ or the engine, nor anything else the sender's step reads (tx_done,
the registers but for the RX ones, TX_BUF, the cycle's pins), but for the cycle's ack_match. -/
def Obligations.ReceivePhaseKeepsTheSender : Prop :=
  ∀ s t : State, receivePhase s = .next t →
    t.snd = s.snd ∧ t.eng = s.eng ∧
      t.regs =
        { s.regs with
          rxValid := t.regs.rxValid, rxAcked := t.regs.rxAcked, rxLenmm := t.regs.rxLenmm
          rxHdr := t.regs.rxHdr, rxCount := t.regs.rxCount, rxDropCode := t.regs.rxDropCode } ∧
      t.cyc.txDone = s.cyc.txDone ∧ t.cyc.w1c = s.cyc.w1c ∧
      (∀ i, i < 255 → t.txBufByte i = s.txBufByte i) ∧
      t.inputs = s.inputs ∧ t.cycle = s.cycle ∧ t.now = s.now ∧
      (t.cyc.ackMatch = true → s.cyc.ackMatch = false →
        s.snd.st = .awaitingAck ∧ s.enable = true ∧ s.now.rxTvalid = true ∧ s.now.rxTlast = true)

/-- R330, R552, R553, R410(c): a frame presented on the RX port of an idle enabled block, one byte a cycle, has
the registers, counters and delivered bytes that the frame's class gives. Frames as pins: log entry 3. -/
def Obligations.PresentedFrameIsReceived : Prop :=
  ∀ (f : List Byte) (s : State) (rest : List Pins), f ≠ [] → s.inputs = pinsOfFrame f ++ rest →
    s.cyc = CycleLocals.none → s.enable = true → s.asm.n = 0 → s.asm.sum = 0 → s.asm.discard = false →
    s.snd.st = .idle → s.eng.busy = false → s.ack.pend = false →
    ∃ t u, Host.Core.run Sys2Proof.core f.length s = .next t ∧ exec (decodeFrame f) s = .next u ∧
      t.cnt = u.cnt ∧ t.regs = { u.regs with status := u.regs.status ||| u.cyc.setmask } ∧
      (∀ j, j < u.regs.rxCount.toNat → s.regs.rxValid = false → u.regs.rxValid = true →
        t.rxBufByte j = u.rxBufByte j) ∧
      t.inputs = rest

/-! ### The clock cycle -/

/-- R403, R651, R411: in a cycle without reset, the step runs the decoded bus word and, around it, the cycle's
other phases: a write (bus_we = 1) runs on the state that P2 to P5 left, a read (bus_we = 0) on the
start-of-cycle state before them; then the cycle ends. -/
def Obligations.StepRunsTheDecodedBusWord : Prop :=
  ∀ s : State, s.now.rst = false →
    (s.now.busWe = true →
      step s =
        andThen (beforeHost s) fun s5 =>
        andThen (exec (decodeBus (busWord true s.now.busAddr s.now.busWdata)) s5) fun s6 =>
        .next (endCycle s6)) ∧
    (s.now.busWe = false →
      step s =
        andThen (exec (decodeBus (busWord false s.now.busAddr s.now.busWdata)) (beginCycle s)) fun s0 =>
        andThen (receivePhase (transportPhase s0)) fun s3 =>
        andThen (txPhase s3) fun s4 =>
        .next (endCycle (senderPhase s4)))

/-- R550, R552: the intake with ENABLE = 1. Outside a discard a byte is taken, and the tlast byte runs the completed
frame's class in P3; in a discard a byte is skipped, and the tlast byte ends it; with no byte nothing happens. -/
def Obligations.ReceivePhaseRunsTheCompletedFrame : Prop :=
  ∀ s : State, s.enable = true →
    let s1 : State := { s with asm := s.asm.take s.now.rxTdata }
    (s.now.rxTvalid = true → s.asm.discard = false → s.now.rxTlast = true →
      receivePhase s = andThen (exec s1.completedFrame s1) fun s2 => .next (closeFrame s2)) ∧
    (s.now.rxTvalid = true → s.asm.discard = false → s.now.rxTlast = false → receivePhase s = .next s1) ∧
    (s.now.rxTvalid = true → s.asm.discard = true → s.now.rxTlast = true →
      receivePhase s = .next { s with asm := { s.asm with discard := false } }) ∧
    (s.now.rxTvalid = true → s.asm.discard = true → s.now.rxTlast = false → receivePhase s = .next s) ∧
    (s.now.rxTvalid = false → receivePhase s = .next s)

/-- R707 and spec/93_implementation_defined.md: every state has a defined next state. -/
def Obligations.EveryStateHasANextState : Prop :=
  ∀ s : State, ∃ t, step s = .next t

/-- R402, R411: the ports show the start-of-cycle state, whatever the cycle does. -/
def Obligations.PortsShowTheStartOfTheCycle : Prop :=
  ∀ s t : State, step s = .next t →
    t.out.txTvalid = s.eng.busy ∧
    t.out.txTdata = (if s.eng.busy then s.engineByte else 0x00#8) ∧
    t.out.txTlast = (s.eng.busy && decide (s.eng.idx.toNat = s.eng.plen.toNat + 5)) ∧
    (t.out.irq = true ↔ s.regs.status &&& s.regs.irqEn ≠ 0#8) ∧
    t.out.busRdata = s.read s.now.busAddr

/-- R800, R801: a cycle with rst = 1 leaves every field of the block at its reset value, written out here, and
nothing else of the cycle takes effect. The buffers and the staging storage hold no written byte: each byte is any
value (U1, U2, U6; log entry 4). -/
def Obligations.ResetCycleGivesTheResetState : Prop :=
  ∀ s : State, s.now.rst = true → ∃ t, step s = .next t ∧
    t.regs =
      { ctrl := 0x02#8, status := 0x00#8, irqEn := 0x00#8, nodeAddr := 0x00#8, seq := 0x00#8, txMcs := 0x00#8
        txDest := 0x00#8, txLen := 0x00#8, txFailCode := 0x00#8, ackTimeoutLo := 0x32#8, ackTimeoutHi := 0x00#8
        frameTimeLo := 0x0A#8, frameTimeHi := 0x00#8, rxValid := false, rxAcked := false, rxLenmm := false
        rxHdr := ⟨0x00#8, 0x00#8, 0x00#8, 0x00#8, 0x00#8, 0x00#8⟩, rxCount := 0x00#8, rxDropCode := 0x00#8
        cmdErrCode := 0x00#8 } ∧
    t.cnt =
      { txData := 0x00#8, txAck := 0x00#8, rxDeliv := 0x00#8, rxCksum := 0x00#8, rxTrunc := 0x00#8
        rxFilt := 0x00#8, rxOverrun := 0x00#8, timeout := 0x00#8, rxAck := 0x00#8 } ∧
    t.snd =
      { st := .idle, hdrL := ⟨0x00#8, 0x00#8, 0x00#8, 0x00#8, 0x00#8⟩, csum := 0x00#8, prepIdx := 0x00#8
        frameReady := false, started := false, abortPend := false, attempt := 0x00#8, elapsed := 0#16
        remaining := 0#26 } ∧
    t.ack = { pend := false, mcs := 0x00#8, seq := 0x00#8, dest := 0x00#8 } ∧
    t.eng =
      { busy := false, kind := .data, hdr := ⟨0x00#8, 0x00#8, 0x00#8, 0x00#8, 0x00#8, 0x00#8⟩, plen := 0x00#8
        idx := 0#9 } ∧
    t.asm =
      { n := 0#9, hdr := ⟨0x00#8, 0x00#8, 0x00#8, 0x00#8, 0x00#8, 0x00#8⟩, stage := [], sum := 0x00#8
        discard := false } ∧
    t.mem = [] ∧ t.cyc = CycleLocals.none ∧ t.read 0x000#10 = 0x45#8 ∧ t.read 0x001#10 = 0x01#8 ∧
    t.inputs = s.inputs.tail

/-- R803, R662: a cycle that carries SOFT_RESET ends in the same state as the same cycle with rst = 1, the
model's own fields included (log entries 2, 4, 5). -/
def Obligations.SoftResetCycleEqualsReset : Prop :=
  ∀ (s : State) (p : Pins) (rest : List Pins), s.inputs = p :: rest → p.rst = false → p.busWe = true →
    p.busAddr = 0x003#10 → p.busWdata = 0x0F#8 →
    step s = step { s with inputs := { p with rst := true } :: rest }

/-- R406: STATUS at the end of a cycle: the bits the host clears go, the bits of the cycle's events are set,
and an event wins over a clear of its bit; the clear mask is the byte written to STATUS, 0 in other cycles. -/
def Obligations.StatusIsFinalisedFromTheMasks : Prop :=
  ∀ s t : State, s.now.rst = false → s.hostWrite? ≠ some .softReset → step s = .next t →
    ∃ s6, afterHost s = .next s6 ∧
      t.regs.status = (s.regs.status &&& ~~~s6.cyc.w1c) ||| s6.cyc.setmask ∧
      s6.cyc.w1c = (if s.now.busWe ∧ s.now.busAddr = 0x004#10 then s.now.busWdata else 0x00#8)

/-- R404, R407, R658: a host write to a counter in P6 overrides a same-cycle increment: it reads 0 next
cycle. -/
def Obligations.CounterWriteOverridesTheIncrement : Prop :=
  ∀ s t : State, s.now.rst = false → s.now.busWe = true → 0x020 ≤ s.now.busAddr.toNat →
    s.now.busAddr.toNat ≤ 0x028 → step s = .next t → t.read s.now.busAddr = 0x00#8

/-- R405, R514, R501: P2 as equations: without chan_err nothing; with it the XportError event, the engine's frame
abandoned (eng_idx 0), the ack slot emptied, and an active send failed with TransportUnavailable. A whole cycle
with chan_err = 1 leaves the port and the sender idle; unless it resets, XPORT_ERR is set, SEQ is kept and an
active send has failed. -/
def Obligations.TransportErrorEndsTheSend : Prop :=
  (∀ s : State,
    let idled : Engine := if s.eng.busy then { s.eng with busy := false, idx := 0 } else s.eng
    (s.now.chanErr = false → transportPhase s = s) ∧
    (s.now.chanErr = true → s.snd.st.active = false →
      transportPhase s =
        { s with
          eng := idled
          ack := { s.ack with pend := false }
          cyc := { s.cyc with setmask := s.cyc.setmask ||| 0x40#8 } }) ∧
    (s.now.chanErr = true → s.snd.st.active = true →
      transportPhase s =
        { s with
          eng := idled
          ack := { s.ack with pend := false }
          regs := { s.regs with txFailCode := 2#8 }
          snd := { s.snd with
            st := .idle, started := false, abortPend := false, frameReady := false,
            elapsed := 0, remaining := 0 }
          cyc := { s.cyc with setmask := s.cyc.setmask ||| 0x42#8 } })) ∧
  ∀ s t : State, s.now.rst = false → s.now.chanErr = true → step s = .next t →
    t.snd.st = .idle ∧ t.eng.busy = false ∧
    (s.hostWrite? ≠ some .softReset →
      t.regs.status.getLsbD 6 = true ∧ t.regs.seq = s.regs.seq ∧
      (s.snd.st.active = true → t.regs.status.getLsbD 1 = true ∧ t.regs.txFailCode = 2#8))

/-- R517, R110: SEQ changes only by one, in the cycle that enters Delivered from AwaitingAck, or to 0 by a
reset. -/
def Obligations.SequenceNumberLaw : Prop :=
  ∀ s t : State, step s = .next t →
    t.regs.seq = s.regs.seq ∨
    (t.regs.seq = s.regs.seq + 1#8 ∧ s.snd.st = .awaitingAck ∧ t.snd.st = .delivered) ∨
    (t.regs.seq = 0x00#8 ∧ (s.now.rst = true ∨ s.hostWrite? = some .softReset))

/-! ### Invariants -/

/-- R801, R145: the reset state has every invariant. -/
def Obligations.ResetStateHasTheInvariants : Prop :=
  TransmitInv State.reset ∧ StorageInv State.reset ∧ CodesInv State.reset ∧ RangeInv State.reset

/-- R145: every step keeps the session invariants (a) to (e), with the facts that carry them. The exception in
(a) is read as the model's choice (log entry 20). -/
def Obligations.EveryStepKeepsTheSessionInvariant : Prop :=
  ∀ s t : State, SessionInv s → step s = .next t → SessionInv t

/-- R462, R518, R606, R213: every step keeps the transmit invariant: the checksum latched is that of the latched
header and TX_BUF, and the engine holds exactly the frame of the send. Every step that goes on with the same send
keeps the latched header, TX_BUF, the TX registers and SEQ themselves. -/
def Obligations.EveryStepKeepsTheTransmitInvariant : Prop :=
  (∀ s t : State, TransmitInv s → step s = .next t → TransmitInv t) ∧
  ∀ s t : State, SendContinues s t →
    t.snd.hdrL = s.snd.hdrL ∧ (∀ i, i < 255 → t.txBufByte i = s.txBufByte i) ∧
      t.regs.txMcs = s.regs.txMcs ∧ t.regs.txDest = s.regs.txDest ∧ t.regs.txLen = s.regs.txLen ∧
      t.regs.seq = s.regs.seq

/-- R606(d), R518, R605, R304: under the transmit invariant every frame on the TX port validates; a data frame
is ENCODE of the latched header and TX_BUF. Over any run of steps of one send, retries included, every data frame
on the port is the same byte list. -/
def Obligations.EveryFrameOnThePortIsValid : Prop :=
  (∀ s : State, TransmitInv s → s.eng.busy = true →
    (∃ fr, decodeBytes s.engineFrame = .ok fr ∧ validate fr = true) ∧
    (s.eng.kind = .data →
      encodeFrame s.snd.hdrL.mcs.toNat s.snd.hdrL.seq.toNat s.snd.hdrL.dest.toNat s.snd.hdrL.src.toNat
        (s.txPayload s.snd.hdrL.len.toNat) = .ok s.engineFrame) ∧
    (s.eng.kind = .ack → ∃ h, decodeFrame s.engineFrame = .rxAck h)) ∧
  ∀ s t : State, TransmitInv s → Relation.ReflTransGen SendContinues s t →
    s.dataOnPort = true → t.dataOnPort = true → t.engineFrame = s.engineFrame

/-- R130, R131, R143, R201: every step keeps the storages in canonical form and inside the buffers. The form is
the model's choice (log entry 4). -/
def Obligations.EveryStepKeepsTheStorageForm : Prop :=
  ∀ s t : State, StorageInv s → step s = .next t → StorageInv t

/-- R105, R702, R703, R704, R142, R143: every step keeps the reserved bits of CTRL 0 and the code registers to
the listed codes, and h.rx_n and h.eng_idx in their ranges. -/
def Obligations.EveryStepKeepsTheLegalCodesAndRanges : Prop :=
  ∀ s t : State, step s = .next t → (CodesInv s → CodesInv t) ∧ (RangeInv s → RangeInv t)
end

