-- ==== Sys2Proof/Laws/Memory.lean ====
section
/-! SUPPORT. The laws of the byte storages: read after write, and that every operation keeps the canonical
form. -/

namespace Sys2Proof.Machine

@[simp] theorem memGet?_nil (a : Nat) : memGet? [] a = none := rfl

@[simp] theorem memGet?_memSet_same (m : Memory) (a : Nat) (v : Byte) :
    memGet? (memSet m a v) a = some v := by
  induction m with
  | nil => simp [memSet, memGet?]
  | cons c rest ih =>
    obtain ⟨k, b⟩ := c
    by_cases h1 : a < k
    · simp [memSet, memGet?, h1]
    · by_cases h2 : a = k
      · simp [memSet, memGet?, h2]
      · simp [memSet, memGet?, h1, h2, Ne.symm h2, ih]

theorem memGet?_memSet_other (m : Memory) (a b : Nat) (v : Byte) (h : b ≠ a) :
    memGet? (memSet m a v) b = memGet? m b := by
  induction m with
  | nil => simp [memSet, memGet?, Ne.symm h]
  | cons c rest ih =>
    obtain ⟨k, x⟩ := c
    by_cases h1 : a < k
    · simp [memSet, memGet?, h1, Ne.symm h]
    · by_cases h2 : a = k
      · subst h2
        simp [memSet, memGet?, Ne.symm h]
      · simp [memSet, memGet?, h1, h2, ih]

/-- A block write reads back inside the block and leaves every other place alone. -/
theorem memGet?_memSetList (m : Memory) (a : Nat) (bs : List Byte) (k : Nat) :
    memGet? (memSetList m a bs) k = if a ≤ k ∧ k < a + bs.length then bs[k - a]? else memGet? m k := by
  induction bs generalizing m a with
  | nil => simp [memSetList]
  | cons b rest ih =>
    simp only [memSetList, ih, List.length_cons]
    by_cases h0 : k = a
    · subst h0
      simp
    · by_cases h1 : a + 1 ≤ k ∧ k < a + 1 + rest.length
      · have h2 : a ≤ k ∧ k < a + (rest.length + 1) := by omega
        have h3 : k - a = (k - (a + 1)) + 1 := by omega
        rw [if_pos h1, if_pos h2, h3, List.getElem?_cons_succ]
      · have h2 : ¬(a ≤ k ∧ k < a + (rest.length + 1)) := by omega
        rw [if_neg h1, if_neg h2, memGet?_memSet_other _ _ _ _ h0]

/-- Dropping the places from lo up leaves the places below lo alone. -/
theorem memGet?_memDropFrom (m : Memory) (lo k : Nat) :
    memGet? (memDropFrom m lo) k = if k < lo then memGet? m k else none := by
  induction m with
  | nil => simp [memDropFrom]
  | cons c rest ih =>
    obtain ⟨x, b⟩ := c
    rw [memDropFrom] at ih ⊢
    by_cases hx : x < lo
    · by_cases hk : x = k
      · subst hk
        simp [memGet?, hx]
      · simp [memGet?, hx, hk, ih]
    · by_cases hk : x = k
      · subst hk
        simp [hx, ih]
      · simp [memGet?, hx, hk, ih]

/-- A canonical form from a higher bound is one from a lower bound. -/
theorem memSorted_mono (m : Memory) {lo lo' hi : Nat} (h : lo' ≤ lo) (hm : memSorted m lo hi = true) :
    memSorted m lo' hi = true := by
  cases m with
  | nil => rfl
  | cons c rest =>
    obtain ⟨k, b⟩ := c
    simp only [memSorted, Bool.and_eq_true, decide_eq_true_eq] at hm ⊢
    exact ⟨⟨by omega, hm.1.2⟩, hm.2⟩

/-- A write keeps the canonical form. -/
theorem memSorted_memSet (m : Memory) (a : Nat) (v : Byte) (lo hi : Nat) (h1 : lo ≤ a) (h2 : a < hi)
    (hm : memSorted m lo hi = true) : memSorted (memSet m a v) lo hi = true := by
  induction m generalizing lo with
  | nil => simp [memSet, memSorted, h1, h2]
  | cons c rest ih =>
    obtain ⟨k, b⟩ := c
    simp only [memSorted, Bool.and_eq_true, decide_eq_true_eq] at hm
    obtain ⟨⟨hk1, hk2⟩, hr⟩ := hm
    by_cases h3 : a < k
    · simp only [memSet, h3, if_true, memSorted, Bool.and_eq_true, decide_eq_true_eq]
      exact ⟨⟨h1, h2⟩, ⟨by omega, hk2⟩, hr⟩
    · by_cases h4 : a = k
      · subst h4
        simp only [memSet, lt_irrefl, if_false, if_true, memSorted, Bool.and_eq_true, decide_eq_true_eq]
        exact ⟨⟨h1, h2⟩, hr⟩
      · simp only [memSet, h3, h4, if_false, memSorted, Bool.and_eq_true, decide_eq_true_eq]
        exact ⟨⟨hk1, hk2⟩, ih (k + 1) (by omega) hr⟩

/-- A block write keeps the canonical form. -/
theorem memSorted_memSetList (m : Memory) (a : Nat) (bs : List Byte) (lo hi : Nat) (h1 : lo ≤ a)
    (h2 : a + bs.length ≤ hi) (hm : memSorted m lo hi = true) :
    memSorted (memSetList m a bs) lo hi = true := by
  induction bs generalizing m a with
  | nil => exact hm
  | cons b rest ih =>
    simp only [List.length_cons] at h2
    exact ih _ _ (by omega) (by omega) (memSorted_memSet m a b lo hi h1 (by omega) hm)

/-- Dropping places keeps the canonical form. -/
theorem memSorted_memDropFrom (m : Memory) (cut lo hi : Nat) (hm : memSorted m lo hi = true) :
    memSorted (memDropFrom m cut) lo hi = true := by
  induction m generalizing lo with
  | nil => rfl
  | cons c rest ih =>
    obtain ⟨k, b⟩ := c
    simp only [memSorted, Bool.and_eq_true, decide_eq_true_eq] at hm
    rw [memDropFrom] at ih ⊢
    by_cases hk : k < cut
    · simp only [List.filter, hk, decide_true, memSorted, Bool.and_eq_true, decide_eq_true_eq]
      exact ⟨hm.1, ih _ hm.2⟩
    · simp only [List.filter, hk, decide_false]
      exact memSorted_mono _ (by omega) (ih _ hm.2)

/-- Memory.wf: a write inside the address space keeps it. -/
theorem Memory.wf_memSet (m : Memory) (a : Nat) (v : Byte) (h : a < 0x400) (hm : Memory.wf m = true) :
    Memory.wf (memSet m a v) = true :=
  memSorted_memSet m a v 0 0x400 (Nat.zero_le a) h hm

/-- Memory.wf: a block write inside the address space keeps it. -/
theorem Memory.wf_memSetList (m : Memory) (a : Nat) (bs : List Byte) (h : a + bs.length ≤ 0x400)
    (hm : Memory.wf m = true) : Memory.wf (memSetList m a bs) = true :=
  memSorted_memSetList m a bs 0 0x400 (Nat.zero_le a) h hm

/-- Memory.wf: dropping places keeps it. -/
theorem Memory.wf_memDropFrom (m : Memory) (lo : Nat) (hm : Memory.wf m = true) :
    Memory.wf (memDropFrom m lo) = true :=
  memSorted_memDropFrom m lo 0 0x400 hm

/-- The reset state's memory has the canonical form. -/
theorem Memory.wf_reset : Memory.wf State.reset.mem = true := rfl

end Sys2Proof.Machine
end

