-- ==== Sys2Proof/Laws/State.lean ====
section
/-! SUPPORT. One lemma per field of State per named update, true by rfl, so that no proof unfolds a record
update. -/

namespace Sys2Proof.Machine

/-! ### raise -/

@[simp] theorem raise_regs (e : Event) (s : State) : (raise e s).regs = s.regs := rfl
@[simp] theorem raise_cnt (e : Event) (s : State) : (raise e s).cnt = s.cnt := rfl
@[simp] theorem raise_snd (e : Event) (s : State) : (raise e s).snd = s.snd := rfl
@[simp] theorem raise_ack (e : Event) (s : State) : (raise e s).ack = s.ack := rfl
@[simp] theorem raise_eng (e : Event) (s : State) : (raise e s).eng = s.eng := rfl
@[simp] theorem raise_asm (e : Event) (s : State) : (raise e s).asm = s.asm := rfl
@[simp] theorem raise_mem (e : Event) (s : State) : (raise e s).mem = s.mem := rfl
@[simp] theorem raise_cyc (e : Event) (s : State) : (raise e s).cyc = { s.cyc with setmask := s.cyc.setmask ||| e.mask } := rfl
@[simp] theorem raise_inputs (e : Event) (s : State) : (raise e s).inputs = s.inputs := rfl
@[simp] theorem raise_cycle (e : Event) (s : State) : (raise e s).cycle = s.cycle := rfl
@[simp] theorem raise_epoch (e : Event) (s : State) : (raise e s).epoch = s.epoch := rfl
@[simp] theorem raise_rxEpoch (e : Event) (s : State) : (raise e s).rxEpoch = s.rxEpoch := rfl
@[simp] theorem raise_out (e : Event) (s : State) : (raise e s).out = s.out := rfl

/-! ### clearEvents -/

@[simp] theorem clearEvents_regs (v : Byte) (s : State) : (clearEvents v s).regs = s.regs := rfl
@[simp] theorem clearEvents_cnt (v : Byte) (s : State) : (clearEvents v s).cnt = s.cnt := rfl
@[simp] theorem clearEvents_snd (v : Byte) (s : State) : (clearEvents v s).snd = s.snd := rfl
@[simp] theorem clearEvents_ack (v : Byte) (s : State) : (clearEvents v s).ack = s.ack := rfl
@[simp] theorem clearEvents_eng (v : Byte) (s : State) : (clearEvents v s).eng = s.eng := rfl
@[simp] theorem clearEvents_asm (v : Byte) (s : State) : (clearEvents v s).asm = s.asm := rfl
@[simp] theorem clearEvents_mem (v : Byte) (s : State) : (clearEvents v s).mem = s.mem := rfl
@[simp] theorem clearEvents_cyc (v : Byte) (s : State) : (clearEvents v s).cyc = { s.cyc with w1c := v } := rfl
@[simp] theorem clearEvents_inputs (v : Byte) (s : State) : (clearEvents v s).inputs = s.inputs := rfl
@[simp] theorem clearEvents_cycle (v : Byte) (s : State) : (clearEvents v s).cycle = s.cycle := rfl
@[simp] theorem clearEvents_epoch (v : Byte) (s : State) : (clearEvents v s).epoch = s.epoch := rfl
@[simp] theorem clearEvents_rxEpoch (v : Byte) (s : State) : (clearEvents v s).rxEpoch = s.rxEpoch := rfl
@[simp] theorem clearEvents_out (v : Byte) (s : State) : (clearEvents v s).out = s.out := rfl

/-! ### cmdErr -/

@[simp] theorem cmdErr_regs (c : CmdCause) (s : State) : (cmdErr c s).regs = { s.regs with cmdErrCode := c.code } := rfl
@[simp] theorem cmdErr_cnt (c : CmdCause) (s : State) : (cmdErr c s).cnt = s.cnt := rfl
@[simp] theorem cmdErr_snd (c : CmdCause) (s : State) : (cmdErr c s).snd = s.snd := rfl
@[simp] theorem cmdErr_ack (c : CmdCause) (s : State) : (cmdErr c s).ack = s.ack := rfl
@[simp] theorem cmdErr_eng (c : CmdCause) (s : State) : (cmdErr c s).eng = s.eng := rfl
@[simp] theorem cmdErr_asm (c : CmdCause) (s : State) : (cmdErr c s).asm = s.asm := rfl
@[simp] theorem cmdErr_mem (c : CmdCause) (s : State) : (cmdErr c s).mem = s.mem := rfl
@[simp] theorem cmdErr_cyc (c : CmdCause) (s : State) : (cmdErr c s).cyc = { s.cyc with setmask := s.cyc.setmask ||| 0x20#8 } := rfl
@[simp] theorem cmdErr_inputs (c : CmdCause) (s : State) : (cmdErr c s).inputs = s.inputs := rfl
@[simp] theorem cmdErr_cycle (c : CmdCause) (s : State) : (cmdErr c s).cycle = s.cycle := rfl
@[simp] theorem cmdErr_epoch (c : CmdCause) (s : State) : (cmdErr c s).epoch = s.epoch := rfl
@[simp] theorem cmdErr_rxEpoch (c : CmdCause) (s : State) : (cmdErr c s).rxEpoch = s.rxEpoch := rfl
@[simp] theorem cmdErr_out (c : CmdCause) (s : State) : (cmdErr c s).out = s.out := rfl

/-! ### txFail -/

@[simp] theorem txFail_regs (c : FailCause) (s : State) : (txFail c s).regs = { s.regs with txFailCode := c.code } := rfl
@[simp] theorem txFail_cnt (c : FailCause) (s : State) : (txFail c s).cnt = s.cnt := rfl
@[simp] theorem txFail_snd (c : FailCause) (s : State) : (txFail c s).snd = s.snd := rfl
@[simp] theorem txFail_ack (c : FailCause) (s : State) : (txFail c s).ack = s.ack := rfl
@[simp] theorem txFail_eng (c : FailCause) (s : State) : (txFail c s).eng = s.eng := rfl
@[simp] theorem txFail_asm (c : FailCause) (s : State) : (txFail c s).asm = s.asm := rfl
@[simp] theorem txFail_mem (c : FailCause) (s : State) : (txFail c s).mem = s.mem := rfl
@[simp] theorem txFail_cyc (c : FailCause) (s : State) : (txFail c s).cyc = { s.cyc with setmask := s.cyc.setmask ||| 0x02#8 } := rfl
@[simp] theorem txFail_inputs (c : FailCause) (s : State) : (txFail c s).inputs = s.inputs := rfl
@[simp] theorem txFail_cycle (c : FailCause) (s : State) : (txFail c s).cycle = s.cycle := rfl
@[simp] theorem txFail_epoch (c : FailCause) (s : State) : (txFail c s).epoch = s.epoch := rfl
@[simp] theorem txFail_rxEpoch (c : FailCause) (s : State) : (txFail c s).rxEpoch = s.rxEpoch := rfl
@[simp] theorem txFail_out (c : FailCause) (s : State) : (txFail c s).out = s.out := rfl

/-! ### goIdle -/

@[simp] theorem goIdle_regs (s : State) : (goIdle s).regs = s.regs := rfl
@[simp] theorem goIdle_cnt (s : State) : (goIdle s).cnt = s.cnt := rfl
@[simp] theorem goIdle_snd (s : State) : (goIdle s).snd = s.snd.goIdle := rfl
@[simp] theorem goIdle_ack (s : State) : (goIdle s).ack = s.ack := rfl
@[simp] theorem goIdle_eng (s : State) : (goIdle s).eng = s.eng := rfl
@[simp] theorem goIdle_asm (s : State) : (goIdle s).asm = s.asm := rfl
@[simp] theorem goIdle_mem (s : State) : (goIdle s).mem = s.mem := rfl
@[simp] theorem goIdle_cyc (s : State) : (goIdle s).cyc = s.cyc := rfl
@[simp] theorem goIdle_inputs (s : State) : (goIdle s).inputs = s.inputs := rfl
@[simp] theorem goIdle_cycle (s : State) : (goIdle s).cycle = s.cycle := rfl
@[simp] theorem goIdle_epoch (s : State) : (goIdle s).epoch = s.epoch := rfl
@[simp] theorem goIdle_rxEpoch (s : State) : (goIdle s).rxEpoch = s.rxEpoch := rfl
@[simp] theorem goIdle_out (s : State) : (goIdle s).out = s.out := rfl

/-! ### fail -/

@[simp] theorem fail_regs (c : FailCause) (s : State) : (fail c s).regs = { s.regs with txFailCode := c.code } := rfl
@[simp] theorem fail_cnt (c : FailCause) (s : State) : (fail c s).cnt = s.cnt := rfl
@[simp] theorem fail_snd (c : FailCause) (s : State) : (fail c s).snd = s.snd.goIdle := rfl
@[simp] theorem fail_ack (c : FailCause) (s : State) : (fail c s).ack = s.ack := rfl
@[simp] theorem fail_eng (c : FailCause) (s : State) : (fail c s).eng = s.eng := rfl
@[simp] theorem fail_asm (c : FailCause) (s : State) : (fail c s).asm = s.asm := rfl
@[simp] theorem fail_mem (c : FailCause) (s : State) : (fail c s).mem = s.mem := rfl
@[simp] theorem fail_cyc (c : FailCause) (s : State) : (fail c s).cyc = { s.cyc with setmask := s.cyc.setmask ||| 0x02#8 } := rfl
@[simp] theorem fail_inputs (c : FailCause) (s : State) : (fail c s).inputs = s.inputs := rfl
@[simp] theorem fail_cycle (c : FailCause) (s : State) : (fail c s).cycle = s.cycle := rfl
@[simp] theorem fail_epoch (c : FailCause) (s : State) : (fail c s).epoch = s.epoch := rfl
@[simp] theorem fail_rxEpoch (c : FailCause) (s : State) : (fail c s).rxEpoch = s.rxEpoch := rfl
@[simp] theorem fail_out (c : FailCause) (s : State) : (fail c s).out = s.out := rfl

/-! ### setTxBuf -/

@[simp] theorem setTxBuf_regs (s : State) (i : Nat) (v : Byte) : (setTxBuf s i v).regs = s.regs := rfl
@[simp] theorem setTxBuf_cnt (s : State) (i : Nat) (v : Byte) : (setTxBuf s i v).cnt = s.cnt := rfl
@[simp] theorem setTxBuf_snd (s : State) (i : Nat) (v : Byte) : (setTxBuf s i v).snd = s.snd := rfl
@[simp] theorem setTxBuf_ack (s : State) (i : Nat) (v : Byte) : (setTxBuf s i v).ack = s.ack := rfl
@[simp] theorem setTxBuf_eng (s : State) (i : Nat) (v : Byte) : (setTxBuf s i v).eng = s.eng := rfl
@[simp] theorem setTxBuf_asm (s : State) (i : Nat) (v : Byte) : (setTxBuf s i v).asm = s.asm := rfl
@[simp] theorem setTxBuf_mem (s : State) (i : Nat) (v : Byte) : (setTxBuf s i v).mem = memSet s.mem (txBufBase + i) v := rfl
@[simp] theorem setTxBuf_cyc (s : State) (i : Nat) (v : Byte) : (setTxBuf s i v).cyc = s.cyc := rfl
@[simp] theorem setTxBuf_inputs (s : State) (i : Nat) (v : Byte) : (setTxBuf s i v).inputs = s.inputs := rfl
@[simp] theorem setTxBuf_cycle (s : State) (i : Nat) (v : Byte) : (setTxBuf s i v).cycle = s.cycle := rfl
@[simp] theorem setTxBuf_epoch (s : State) (i : Nat) (v : Byte) : (setTxBuf s i v).epoch = s.epoch := rfl
@[simp] theorem setTxBuf_rxEpoch (s : State) (i : Nat) (v : Byte) : (setTxBuf s i v).rxEpoch = s.rxEpoch := rfl
@[simp] theorem setTxBuf_out (s : State) (i : Nat) (v : Byte) : (setTxBuf s i v).out = s.out := rfl

/-! ### drop -/

@[simp] theorem drop_regs (c : DropCause) (s : State) : (drop c s).regs = { s.regs with rxDropCode := c.code } := rfl
@[simp] theorem drop_cnt (c : DropCause) (s : State) : (drop c s).cnt = s.cnt.countDrop c := rfl
@[simp] theorem drop_snd (c : DropCause) (s : State) : (drop c s).snd = s.snd := rfl
@[simp] theorem drop_ack (c : DropCause) (s : State) : (drop c s).ack = s.ack := rfl
@[simp] theorem drop_eng (c : DropCause) (s : State) : (drop c s).eng = s.eng := rfl
@[simp] theorem drop_asm (c : DropCause) (s : State) : (drop c s).asm = s.asm := rfl
@[simp] theorem drop_mem (c : DropCause) (s : State) : (drop c s).mem = s.mem := rfl
@[simp] theorem drop_cyc (c : DropCause) (s : State) : (drop c s).cyc = { s.cyc with setmask := s.cyc.setmask ||| 0x08#8 } := rfl
@[simp] theorem drop_inputs (c : DropCause) (s : State) : (drop c s).inputs = s.inputs := rfl
@[simp] theorem drop_cycle (c : DropCause) (s : State) : (drop c s).cycle = s.cycle := rfl
@[simp] theorem drop_epoch (c : DropCause) (s : State) : (drop c s).epoch = s.epoch := rfl
@[simp] theorem drop_rxEpoch (c : DropCause) (s : State) : (drop c s).rxEpoch = s.rxEpoch := rfl
@[simp] theorem drop_out (c : DropCause) (s : State) : (drop c s).out = s.out := rfl

/-! ### postAck -/

@[simp] theorem postAck_regs (m q d : Byte) (s : State) : (postAck m q d s).regs = s.regs := rfl
@[simp] theorem postAck_cnt (m q d : Byte) (s : State) : (postAck m q d s).cnt = s.cnt := rfl
@[simp] theorem postAck_snd (m q d : Byte) (s : State) : (postAck m q d s).snd = s.snd := rfl
@[simp] theorem postAck_ack (m q d : Byte) (s : State) : (postAck m q d s).ack = ⟨true, m, q, d⟩ := rfl
@[simp] theorem postAck_eng (m q d : Byte) (s : State) : (postAck m q d s).eng = s.eng := rfl
@[simp] theorem postAck_asm (m q d : Byte) (s : State) : (postAck m q d s).asm = s.asm := rfl
@[simp] theorem postAck_mem (m q d : Byte) (s : State) : (postAck m q d s).mem = s.mem := rfl
@[simp] theorem postAck_cyc (m q d : Byte) (s : State) : (postAck m q d s).cyc = s.cyc := rfl
@[simp] theorem postAck_inputs (m q d : Byte) (s : State) : (postAck m q d s).inputs = s.inputs := rfl
@[simp] theorem postAck_cycle (m q d : Byte) (s : State) : (postAck m q d s).cycle = s.cycle := rfl
@[simp] theorem postAck_epoch (m q d : Byte) (s : State) : (postAck m q d s).epoch = s.epoch := rfl
@[simp] theorem postAck_rxEpoch (m q d : Byte) (s : State) : (postAck m q d s).rxEpoch = s.rxEpoch := rfl
@[simp] theorem postAck_out (m q d : Byte) (s : State) : (postAck m q d s).out = s.out := rfl

/-! ### releaseFrame -/

@[simp] theorem releaseFrame_regs (s : State) : (releaseFrame s).regs = { s.regs with rxValid := false, rxAcked := false } := rfl
@[simp] theorem releaseFrame_cnt (s : State) : (releaseFrame s).cnt = s.cnt := rfl
@[simp] theorem releaseFrame_snd (s : State) : (releaseFrame s).snd = s.snd := rfl
@[simp] theorem releaseFrame_ack (s : State) : (releaseFrame s).ack = s.ack := rfl
@[simp] theorem releaseFrame_eng (s : State) : (releaseFrame s).eng = s.eng := rfl
@[simp] theorem releaseFrame_asm (s : State) : (releaseFrame s).asm = s.asm := rfl
@[simp] theorem releaseFrame_mem (s : State) : (releaseFrame s).mem = s.mem := rfl
@[simp] theorem releaseFrame_cyc (s : State) : (releaseFrame s).cyc = s.cyc := rfl
@[simp] theorem releaseFrame_inputs (s : State) : (releaseFrame s).inputs = s.inputs := rfl
@[simp] theorem releaseFrame_cycle (s : State) : (releaseFrame s).cycle = s.cycle := rfl
@[simp] theorem releaseFrame_epoch (s : State) : (releaseFrame s).epoch = s.epoch := rfl
@[simp] theorem releaseFrame_rxEpoch (s : State) : (releaseFrame s).rxEpoch = s.rxEpoch := rfl
@[simp] theorem releaseFrame_out (s : State) : (releaseFrame s).out = s.out := rfl

/-! ### hwReset -/

@[simp] theorem hwReset_regs (s : State) : (hwReset s).regs = Regs.reset := rfl
@[simp] theorem hwReset_cnt (s : State) : (hwReset s).cnt = Counters.reset := rfl
@[simp] theorem hwReset_snd (s : State) : (hwReset s).snd = Sender.reset := rfl
@[simp] theorem hwReset_ack (s : State) : (hwReset s).ack = ⟨false, 0, 0, 0⟩ := rfl
@[simp] theorem hwReset_eng (s : State) : (hwReset s).eng = State.reset.eng := rfl
@[simp] theorem hwReset_asm (s : State) : (hwReset s).asm = State.reset.asm := rfl
@[simp] theorem hwReset_mem (s : State) : (hwReset s).mem = [] := rfl
@[simp] theorem hwReset_cyc (s : State) : (hwReset s).cyc = CycleLocals.none := rfl
@[simp] theorem hwReset_inputs (s : State) : (hwReset s).inputs = s.inputs := rfl
@[simp] theorem hwReset_cycle (s : State) : (hwReset s).cycle = s.cycle := rfl
@[simp] theorem hwReset_epoch (s : State) : (hwReset s).epoch = s.cycle + 1 := rfl
@[simp] theorem hwReset_rxEpoch (s : State) : (hwReset s).rxEpoch = s.cycle + 1 := rfl
@[simp] theorem hwReset_out (s : State) : (hwReset s).out = s.out := rfl

/-! ### noMatch -/

@[simp] theorem noMatch_regs (s : State) : (noMatch s).regs = s.regs := rfl
@[simp] theorem noMatch_cnt (s : State) : (noMatch s).cnt = s.cnt := rfl
@[simp] theorem noMatch_snd (s : State) : (noMatch s).snd = s.snd := rfl
@[simp] theorem noMatch_ack (s : State) : (noMatch s).ack = s.ack := rfl
@[simp] theorem noMatch_eng (s : State) : (noMatch s).eng = s.eng := rfl
@[simp] theorem noMatch_asm (s : State) : (noMatch s).asm = s.asm := rfl
@[simp] theorem noMatch_mem (s : State) : (noMatch s).mem = s.mem := rfl
@[simp] theorem noMatch_cyc (s : State) : (noMatch s).cyc = { s.cyc with ackMatch := false } := rfl
@[simp] theorem noMatch_inputs (s : State) : (noMatch s).inputs = s.inputs := rfl
@[simp] theorem noMatch_cycle (s : State) : (noMatch s).cycle = s.cycle := rfl
@[simp] theorem noMatch_epoch (s : State) : (noMatch s).epoch = s.epoch := rfl
@[simp] theorem noMatch_rxEpoch (s : State) : (noMatch s).rxEpoch = s.rxEpoch := rfl
@[simp] theorem noMatch_out (s : State) : (noMatch s).out = s.out := rfl

/-! ### receiveAck -/

@[simp] theorem receiveAck_regs (h : Header) (s : State) : (receiveAck h s).regs = s.regs := rfl
@[simp] theorem receiveAck_cnt (h : Header) (s : State) : (receiveAck h s).cnt = { s.cnt with rxAck := s.cnt.rxAck + 1#8 } := rfl
@[simp] theorem receiveAck_snd (h : Header) (s : State) : (receiveAck h s).snd = s.snd := rfl
@[simp] theorem receiveAck_ack (h : Header) (s : State) : (receiveAck h s).ack = s.ack := rfl
@[simp] theorem receiveAck_eng (h : Header) (s : State) : (receiveAck h s).eng = s.eng := rfl
@[simp] theorem receiveAck_asm (h : Header) (s : State) : (receiveAck h s).asm = s.asm := rfl
@[simp] theorem receiveAck_mem (h : Header) (s : State) : (receiveAck h s).mem = s.mem := rfl
@[simp] theorem receiveAck_cyc (h : Header) (s : State) : (receiveAck h s).cyc = { s.cyc with ackMatch := s.ackMatches h } := rfl
@[simp] theorem receiveAck_inputs (h : Header) (s : State) : (receiveAck h s).inputs = s.inputs := rfl
@[simp] theorem receiveAck_cycle (h : Header) (s : State) : (receiveAck h s).cycle = s.cycle := rfl
@[simp] theorem receiveAck_epoch (h : Header) (s : State) : (receiveAck h s).epoch = s.epoch := rfl
@[simp] theorem receiveAck_rxEpoch (h : Header) (s : State) : (receiveAck h s).rxEpoch = s.rxEpoch := rfl
@[simp] theorem receiveAck_out (h : Header) (s : State) : (receiveAck h s).out = s.out := rfl

/-! ### closeFrame -/

@[simp] theorem closeFrame_regs (s : State) : (closeFrame s).regs = s.regs := rfl
@[simp] theorem closeFrame_cnt (s : State) : (closeFrame s).cnt = s.cnt := rfl
@[simp] theorem closeFrame_snd (s : State) : (closeFrame s).snd = s.snd := rfl
@[simp] theorem closeFrame_ack (s : State) : (closeFrame s).ack = s.ack := rfl
@[simp] theorem closeFrame_eng (s : State) : (closeFrame s).eng = s.eng := rfl
@[simp] theorem closeFrame_asm (s : State) : (closeFrame s).asm = s.asm.clear := rfl
@[simp] theorem closeFrame_mem (s : State) : (closeFrame s).mem = s.mem := rfl
@[simp] theorem closeFrame_cyc (s : State) : (closeFrame s).cyc = s.cyc := rfl
@[simp] theorem closeFrame_inputs (s : State) : (closeFrame s).inputs = s.inputs := rfl
@[simp] theorem closeFrame_cycle (s : State) : (closeFrame s).cycle = s.cycle := rfl
@[simp] theorem closeFrame_epoch (s : State) : (closeFrame s).epoch = s.epoch := rfl
@[simp] theorem closeFrame_rxEpoch (s : State) : (closeFrame s).rxEpoch = s.rxEpoch := rfl
@[simp] theorem closeFrame_out (s : State) : (closeFrame s).out = s.out := rfl

/-! ### loadAck -/

@[simp] theorem loadAck_regs (s : State) : (loadAck s).regs = s.regs := rfl
@[simp] theorem loadAck_cnt (s : State) : (loadAck s).cnt = s.cnt := rfl
@[simp] theorem loadAck_snd (s : State) : (loadAck s).snd = s.snd := rfl
@[simp] theorem loadAck_ack (s : State) : (loadAck s).ack = { s.ack with pend := false } := rfl
@[simp] theorem loadAck_eng (s : State) : (loadAck s).eng = { busy := true, kind := .ack, hdr := s.ackHeader, plen := 0x03#8, idx := 0 } := rfl
@[simp] theorem loadAck_asm (s : State) : (loadAck s).asm = s.asm := rfl
@[simp] theorem loadAck_mem (s : State) : (loadAck s).mem = s.mem := rfl
@[simp] theorem loadAck_cyc (s : State) : (loadAck s).cyc = s.cyc := rfl
@[simp] theorem loadAck_inputs (s : State) : (loadAck s).inputs = s.inputs := rfl
@[simp] theorem loadAck_cycle (s : State) : (loadAck s).cycle = s.cycle := rfl
@[simp] theorem loadAck_epoch (s : State) : (loadAck s).epoch = s.epoch := rfl
@[simp] theorem loadAck_rxEpoch (s : State) : (loadAck s).rxEpoch = s.rxEpoch := rfl
@[simp] theorem loadAck_out (s : State) : (loadAck s).out = s.out := rfl

/-! ### loadData -/

@[simp] theorem loadData_regs (s : State) : (loadData s).regs = s.regs := rfl
@[simp] theorem loadData_cnt (s : State) : (loadData s).cnt = s.cnt := rfl
@[simp] theorem loadData_snd (s : State) : (loadData s).snd = { s.snd with started := true } := rfl
@[simp] theorem loadData_ack (s : State) : (loadData s).ack = s.ack := rfl
@[simp] theorem loadData_eng (s : State) : (loadData s).eng = { busy := true, kind := .data, hdr := s.dataHeader, plen := s.snd.hdrL.len, idx := 0 } := rfl
@[simp] theorem loadData_asm (s : State) : (loadData s).asm = s.asm := rfl
@[simp] theorem loadData_mem (s : State) : (loadData s).mem = s.mem := rfl
@[simp] theorem loadData_cyc (s : State) : (loadData s).cyc = s.cyc := rfl
@[simp] theorem loadData_inputs (s : State) : (loadData s).inputs = s.inputs := rfl
@[simp] theorem loadData_cycle (s : State) : (loadData s).cycle = s.cycle := rfl
@[simp] theorem loadData_epoch (s : State) : (loadData s).epoch = s.epoch := rfl
@[simp] theorem loadData_rxEpoch (s : State) : (loadData s).rxEpoch = s.rxEpoch := rfl
@[simp] theorem loadData_out (s : State) : (loadData s).out = s.out := rfl

/-! ### acceptAck -/

@[simp] theorem acceptAck_regs (s : State) : (acceptAck s).regs = { s.regs with seq := s.regs.seq + 1#8 } := rfl
@[simp] theorem acceptAck_cnt (s : State) : (acceptAck s).cnt = s.cnt := rfl
@[simp] theorem acceptAck_snd (s : State) : (acceptAck s).snd = { s.snd with st := .delivered } := rfl
@[simp] theorem acceptAck_ack (s : State) : (acceptAck s).ack = s.ack := rfl
@[simp] theorem acceptAck_eng (s : State) : (acceptAck s).eng = s.eng := rfl
@[simp] theorem acceptAck_asm (s : State) : (acceptAck s).asm = s.asm := rfl
@[simp] theorem acceptAck_mem (s : State) : (acceptAck s).mem = s.mem := rfl
@[simp] theorem acceptAck_cyc (s : State) : (acceptAck s).cyc = { s.cyc with setmask := s.cyc.setmask ||| 0x01#8 } := rfl
@[simp] theorem acceptAck_inputs (s : State) : (acceptAck s).inputs = s.inputs := rfl
@[simp] theorem acceptAck_cycle (s : State) : (acceptAck s).cycle = s.cycle := rfl
@[simp] theorem acceptAck_epoch (s : State) : (acceptAck s).epoch = s.epoch := rfl
@[simp] theorem acceptAck_rxEpoch (s : State) : (acceptAck s).rxEpoch = s.rxEpoch := rfl
@[simp] theorem acceptAck_out (s : State) : (acceptAck s).out = s.out := rfl

/-! ### timeout -/

@[simp] theorem timeout_regs (s : State) : (timeout s).regs = s.regs := rfl
@[simp] theorem timeout_cnt (s : State) : (timeout s).cnt = { s.cnt with timeout := s.cnt.timeout + 1#8 } := rfl
@[simp] theorem timeout_ack (s : State) : (timeout s).ack = s.ack := rfl
@[simp] theorem timeout_eng (s : State) : (timeout s).eng = s.eng := rfl
@[simp] theorem timeout_asm (s : State) : (timeout s).asm = s.asm := rfl
@[simp] theorem timeout_mem (s : State) : (timeout s).mem = s.mem := rfl
@[simp] theorem timeout_cyc (s : State) : (timeout s).cyc = { s.cyc with setmask := s.cyc.setmask ||| 0x10#8 } := rfl
@[simp] theorem timeout_inputs (s : State) : (timeout s).inputs = s.inputs := rfl
@[simp] theorem timeout_cycle (s : State) : (timeout s).cycle = s.cycle := rfl
@[simp] theorem timeout_epoch (s : State) : (timeout s).epoch = s.epoch := rfl
@[simp] theorem timeout_rxEpoch (s : State) : (timeout s).rxEpoch = s.rxEpoch := rfl
@[simp] theorem timeout_out (s : State) : (timeout s).out = s.out := rfl

/-! ### beginCycle -/

@[simp] theorem beginCycle_regs (s : State) : (beginCycle s).regs = s.regs := rfl
@[simp] theorem beginCycle_cnt (s : State) : (beginCycle s).cnt = s.cnt := rfl
@[simp] theorem beginCycle_snd (s : State) : (beginCycle s).snd = s.snd := rfl
@[simp] theorem beginCycle_ack (s : State) : (beginCycle s).ack = s.ack := rfl
@[simp] theorem beginCycle_eng (s : State) : (beginCycle s).eng = s.eng := rfl
@[simp] theorem beginCycle_asm (s : State) : (beginCycle s).asm = s.asm := rfl
@[simp] theorem beginCycle_mem (s : State) : (beginCycle s).mem = s.mem := rfl
@[simp] theorem beginCycle_cyc (s : State) : (beginCycle s).cyc = CycleLocals.none := rfl
@[simp] theorem beginCycle_inputs (s : State) : (beginCycle s).inputs = s.inputs := rfl
@[simp] theorem beginCycle_cycle (s : State) : (beginCycle s).cycle = s.cycle := rfl
@[simp] theorem beginCycle_epoch (s : State) : (beginCycle s).epoch = s.epoch := rfl
@[simp] theorem beginCycle_rxEpoch (s : State) : (beginCycle s).rxEpoch = s.rxEpoch := rfl
@[simp] theorem beginCycle_out (s : State) : (beginCycle s).out = s.portSample := rfl

/-! ### endCycle -/

@[simp] theorem endCycle_regs (s : State) : (endCycle s).regs = { s.regs with status := finalStatus s.regs.status s.cyc.setmask s.cyc.w1c } := rfl
@[simp] theorem endCycle_cnt (s : State) : (endCycle s).cnt = s.cnt := rfl
@[simp] theorem endCycle_snd (s : State) : (endCycle s).snd = s.snd := rfl
@[simp] theorem endCycle_ack (s : State) : (endCycle s).ack = s.ack := rfl
@[simp] theorem endCycle_eng (s : State) : (endCycle s).eng = s.eng := rfl
@[simp] theorem endCycle_asm (s : State) : (endCycle s).asm = s.asm := rfl
@[simp] theorem endCycle_mem (s : State) : (endCycle s).mem = s.mem := rfl
@[simp] theorem endCycle_cyc (s : State) : (endCycle s).cyc = CycleLocals.none := rfl
@[simp] theorem endCycle_inputs (s : State) : (endCycle s).inputs = s.inputs.tail := rfl
@[simp] theorem endCycle_cycle (s : State) : (endCycle s).cycle = s.cycle + 1 := rfl
@[simp] theorem endCycle_epoch (s : State) : (endCycle s).epoch = s.epoch := rfl
@[simp] theorem endCycle_rxEpoch (s : State) : (endCycle s).rxEpoch = s.rxEpoch := rfl
@[simp] theorem endCycle_out (s : State) : (endCycle s).out = s.out := rfl

/-! ### The pins of the current cycle -/

/-- The current pins depend on the placed inputs and the cycle count alone. -/
theorem now_congr {s t : State} (h1 : t.inputs = s.inputs) (h2 : t.cycle = s.cycle) : t.now = s.now := by
  simp [State.now, h1, h2]

end Sys2Proof.Machine
end

