-- ==== Sys2Proof/Laws/Ops.lean ====
section
/-! SUPPORT. One lemma for each shared operation that says once everything it can do; later proofs cite it and
never unfold the operation. -/

namespace Sys2Proof.Machine

/-! ### Outcomes -/

@[simp] theorem andThen_next (s : State) (f : State → Result) : andThen (.next s) f = f s := rfl

/-- A sequence answers a next state exactly when both parts do. -/
theorem andThen_eq_next_iff (r : Result) (f : State → Result) (t : State) :
    andThen r f = .next t ↔ ∃ s, r = .next s ∧ f s = .next t := by
  cases r <;> simp [andThen]

@[simp] theorem nextState?_next (s : State) : nextState? (.next s) = some s := rfl
@[simp] theorem runOpt_none (s : State) : runOpt none s = .next s := rfl
@[simp] theorem runOpt_some (i : Instr) (s : State) : runOpt (some i) s = exec i s := rfl

/-! ### Events and codes -/

@[simp] theorem mask_txDone : Event.mask .txDone = 0x01#8 := rfl
@[simp] theorem mask_txFail : Event.mask .txFail = 0x02#8 := rfl
@[simp] theorem mask_rxDeliv : Event.mask .rxDeliv = 0x04#8 := rfl
@[simp] theorem mask_rxDrop : Event.mask .rxDrop = 0x08#8 := rfl
@[simp] theorem mask_ackTimeout : Event.mask .ackTimeout = 0x10#8 := rfl
@[simp] theorem mask_cmdError : Event.mask .cmdError = 0x20#8 := rfl
@[simp] theorem mask_xportError : Event.mask .xportError = 0x40#8 := rfl
@[simp] theorem mask_ackSent : Event.mask .ackSent = 0x80#8 := rfl

/-- The codes a code register can take are those of its table (R702, R703, R704). -/
theorem code_ranges (f : FailCause) (d : DropCause) (c : CmdCause) :
    f.code.toNat ≤ 3 ∧ d.code.toNat ≤ 6 ∧ c.code.toNat ≤ 5 := by
  cases f <;> cases d <;> cases c <;> decide

/-! ### Sender operations -/

@[simp] theorem Sender.goIdle_st (d : Sender) : d.goIdle.st = .idle := rfl
@[simp] theorem Sender.goIdle_hdrL (d : Sender) : d.goIdle.hdrL = d.hdrL := rfl
@[simp] theorem Sender.goIdle_csum (d : Sender) : d.goIdle.csum = d.csum := rfl
@[simp] theorem Sender.goIdle_prepIdx (d : Sender) : d.goIdle.prepIdx = d.prepIdx := rfl
@[simp] theorem Sender.goIdle_frameReady (d : Sender) : d.goIdle.frameReady = false := rfl
@[simp] theorem Sender.goIdle_started (d : Sender) : d.goIdle.started = false := rfl
@[simp] theorem Sender.goIdle_abortPend (d : Sender) : d.goIdle.abortPend = false := rfl
@[simp] theorem Sender.goIdle_attempt (d : Sender) : d.goIdle.attempt = d.attempt := rfl
@[simp] theorem Sender.goIdle_elapsed (d : Sender) : d.goIdle.elapsed = 0 := rfl
@[simp] theorem Sender.goIdle_remaining (d : Sender) : d.goIdle.remaining = 0 := rfl

/-- Everything ABORT's pseudocode can do (R512). -/
theorem abortSend_cases (s : State) :
    (abortSend s = s ∧ s.snd.st.active = false) ∨
    (abortSend s = { s with snd := { s.snd with abortPend := true } } ∧
      s.snd.st = .sending ∧ s.streamingData = true) ∨
    (abortSend s = fail .aborted s ∧ s.snd.st.active = true ∧
      ¬(s.snd.st = .sending ∧ s.streamingData = true)) := by
  cases h : s.snd.st <;> cases h2 : s.streamingData <;> simp [abortSend, SenderState.active, h, h2]

/-- A disable is the abort of a state whose ack slot is emptied (R513). -/
theorem disable_eq (s : State) : disable s = abortSend { s with ack := { s.ack with pend := false } } := rfl

/-- Everything the sender's part of a transport error can do (R514). -/
theorem transportAbort_cases (s : State) :
    (transportAbort s = s ∧ s.snd.st.active = false) ∨
    (transportAbort s = fail .transportUnavailable s ∧ s.snd.st.active = true) := by
  cases h : s.snd.st <;> simp [transportAbort, SenderState.active, h]

@[simp] theorem transportPhase_quiet (s : State) (h : s.now.chanErr = false) : transportPhase s = s := by
  simp [transportPhase, h]

/-- P2 with `chan_err` (R405): the event, the port idle, the ack slot empty, then the sender's part. -/
theorem transportPhase_error (s : State) (h : s.now.chanErr = true) :
    transportPhase s = transportAbort { s with
      eng := if s.eng.busy then { s.eng with busy := false, idx := 0 } else s.eng
      ack := { s.ack with pend := false }
      cyc := { s.cyc with setmask := s.cyc.setmask ||| 0x40#8 } } := by
  cases h2 : s.eng.busy <;> simp [transportPhase, raise, h, h2]

/-- Everything one sender step can do (R502 to R511). -/
theorem senderPhase_cases (s : State) :
    (senderPhase s = s) ∨
    (senderPhase s = checksumPass s ∧ s.snd.st = .sending ∧ s.snd.frameReady = false) ∨
    (senderPhase s = fail .aborted s ∧ s.snd.st = .sending ∧ s.snd.frameReady = true ∧
      s.cyc.txDone = some .data ∧ s.snd.abortPend = true) ∨
    (senderPhase s = { s with snd := { s.snd with st := .awaitingAck, elapsed := 0 } } ∧
      s.snd.st = .sending ∧ s.snd.frameReady = true ∧ s.cyc.txDone = some .data ∧
      s.snd.abortPend = false) ∨
    (senderPhase s = acceptAck s ∧ s.snd.st = .awaitingAck ∧ s.cyc.ackMatch = true) ∨
    (∃ e, senderPhase s = { s with snd := { s.snd with elapsed := e } } ∧ s.snd.st = .awaitingAck ∧
      s.cyc.ackMatch = false) ∨
    (∃ e, senderPhase s = timeout { s with snd := { s.snd with elapsed := e } } ∧
      s.snd.st = .awaitingAck ∧ s.cyc.ackMatch = false) ∨
    (senderPhase s = goIdle s ∧ s.snd.st = .delivered) ∨
    (senderPhase s = { s with snd := { s.snd with st := .sending } } ∧ s.snd.st = .backingOff ∧
      s.snd.remaining = 0) ∨
    (senderPhase s = { s with snd := { s.snd with remaining := s.snd.remaining - 1 } } ∧
      s.snd.st = .backingOff) := by
  cases h : s.snd.st with
  | idle => simp [senderPhase, h]
  | sending =>
    cases h1 : s.snd.frameReady
    · simp [senderPhase, h, h1]
    · by_cases h2 : s.cyc.txDone = some .data
      · cases h3 : s.snd.abortPend <;> simp [senderPhase, sendingStep, h, h1, h2, h3]
      · simp [senderPhase, sendingStep, h, h1, h2]
  | awaitingAck =>
    cases h1 : s.cyc.ackMatch
    · cases h2 : s.now.tick
      · simp [senderPhase, awaitingStep, h, h1, h2]
      · by_cases h3 : s.toEff ≤ s.snd.elapsed.toNat + 1
        · refine .inr (.inr (.inr (.inr (.inr (.inr (.inl
            ⟨BitVec.ofNat 16 (s.snd.elapsed.toNat + 1), ?_, rfl, rfl⟩))))))
          simp [senderPhase, awaitingStep, h, h1, h2, h3]
        · refine .inr (.inr (.inr (.inr (.inr (.inl
            ⟨BitVec.ofNat 16 (s.snd.elapsed.toNat + 1), ?_, rfl, rfl⟩)))))
          simp [senderPhase, awaitingStep, h, h1, h2, h3]
    · simp [senderPhase, awaitingStep, h, h1]
  | delivered => simp [senderPhase, h]
  | backingOff =>
    by_cases h1 : s.snd.remaining = 0#26
    · simp [senderPhase, backingOffStep, h, h1]
    · cases h2 : s.now.tick <;> simp [senderPhase, backingOffStep, h, h1, h2]

/-! ### Host bus operations -/

/-- Everything a locked TX write can do (R654). -/
theorem txLocked_cases (s : State) (f : State → State) :
    (txLocked s f = .next (f s) ∧ s.snd.st = .idle) ∨
    (txLocked s f = .next (cmdErr .lockedWrite s) ∧ s.snd.st ≠ .idle) := by
  by_cases h : s.snd.st = .idle <;> simp [txLocked, h]

/-! ### Receiver operations -/

/-- A frame acts while ENABLE = 1 and is discarded while ENABLE = 0 (R551). -/
theorem whenTaking_cases (s : State) (f : State → State) :
    (whenTaking s f = .next (f s) ∧ s.enable = true) ∨
    (whenTaking s f = .next s ∧ s.enable = false) := by
  cases h : s.enable <;> simp [whenTaking, h]

@[simp] theorem deliver_regs (h : Header) (p : List Byte) (s : State) : (deliver h p s).regs =
    { s.regs with
      rxHdr := h
      rxCount := BitVec.ofNat 8 p.length
      rxValid := true
      rxAcked := s.autoAck
      rxLenmm := decide (h.len.toNat ≠ p.length) } := by
  cases h1 : s.autoAck <;> simp [deliver, h1]
@[simp] theorem deliver_cnt (h : Header) (p : List Byte) (s : State) :
    (deliver h p s).cnt = { s.cnt with rxDeliv := s.cnt.rxDeliv + 1#8 } := by
  cases h1 : s.autoAck <;> simp [deliver, h1]
@[simp] theorem deliver_snd (h : Header) (p : List Byte) (s : State) : (deliver h p s).snd = s.snd := by
  cases h1 : s.autoAck <;> simp [deliver, h1]
@[simp] theorem deliver_ack (h : Header) (p : List Byte) (s : State) :
    (deliver h p s).ack = if s.autoAck then ⟨true, h.mcs, h.seq, h.src⟩ else s.ack := by
  cases h1 : s.autoAck <;> simp [deliver, h1]
@[simp] theorem deliver_eng (h : Header) (p : List Byte) (s : State) : (deliver h p s).eng = s.eng := by
  cases h1 : s.autoAck <;> simp [deliver, h1]
@[simp] theorem deliver_asm (h : Header) (p : List Byte) (s : State) : (deliver h p s).asm = s.asm := by
  cases h1 : s.autoAck <;> simp [deliver, h1]
@[simp] theorem deliver_mem (h : Header) (p : List Byte) (s : State) :
    (deliver h p s).mem = memSetList (memDropFrom s.mem rxBufBase) rxBufBase p := by
  cases h1 : s.autoAck <;> simp [deliver, h1]
@[simp] theorem deliver_cyc (h : Header) (p : List Byte) (s : State) :
    (deliver h p s).cyc = { s.cyc with setmask := s.cyc.setmask ||| 0x04#8 } := by
  cases h1 : s.autoAck <;> simp [deliver, h1]
@[simp] theorem deliver_inputs (h : Header) (p : List Byte) (s : State) :
    (deliver h p s).inputs = s.inputs := by
  cases h1 : s.autoAck <;> simp [deliver, h1]
@[simp] theorem deliver_cycle (h : Header) (p : List Byte) (s : State) : (deliver h p s).cycle = s.cycle := by
  cases h1 : s.autoAck <;> simp [deliver, h1]
@[simp] theorem deliver_epoch (h : Header) (p : List Byte) (s : State) : (deliver h p s).epoch = s.epoch := by
  cases h1 : s.autoAck <;> simp [deliver, h1]
@[simp] theorem deliver_rxEpoch (h : Header) (p : List Byte) (s : State) :
    (deliver h p s).rxEpoch = s.cycle + 1 := by
  cases h1 : s.autoAck <;> simp [deliver, h1]
@[simp] theorem deliver_out (h : Header) (p : List Byte) (s : State) : (deliver h p s).out = s.out := by
  cases h1 : s.autoAck <;> simp [deliver, h1]

/-- A valid data frame is dropped for one cause or delivered (R553). -/
theorem receiveData_cases (h : Header) (p : List Byte) (s : State) :
    (∃ c, receiveData h p s = drop c s ∧ s.dataDrop h p = some c) ∨
    (receiveData h p s = deliver h p s ∧ s.dataDrop h p = none) := by
  cases h1 : s.dataDrop h p <;> simp [receiveData, h1]

/-- What lets a valid data frame be delivered (R553). -/
theorem dataDrop_eq_none_iff (h : Header) (p : List Byte) (s : State) :
    s.dataDrop h p = none ↔
      h.dest = s.regs.nodeAddr ∧ p.length ≤ 255 ∧ (s.strictLen = true → h.len.toNat = p.length) ∧
        s.regs.rxValid = false ∧ (s.autoAck = true → s.ack.pend = false) := by
  unfold State.dataDrop checkDest Config.maxPayload
  split_ifs with h1 h2 h3 h4
  · simp_all
  · simp_all
  · simp only [false_iff]
    exact fun hd => h3.2 (hd.2.2.1 h3.1)
  · simp only [false_iff]
    intro hd
    rcases h4 with h4 | h4
    · simp_all
    · simp_all
  · simp_all

@[simp] theorem Assembler.take_discard (a : Assembler) (b : Byte) : (a.take b).discard = a.discard := rfl
@[simp] theorem Assembler.clear_n (a : Assembler) : a.clear.n = 0 := rfl
@[simp] theorem Assembler.clear_sum (a : Assembler) : a.clear.sum = 0 := rfl
@[simp] theorem Assembler.clear_discard (a : Assembler) : a.clear.discard = a.discard := rfl
@[simp] theorem Assembler.clear_stage (a : Assembler) : a.clear.stage = a.stage := rfl

/-- Everything the intake can do to the state: it changes the assembler alone (R550, R551). -/
theorem intake_keeps (s : State) : (intake s).1 = { s with asm := (intake s).1.asm } := by
  cases h1 : s.enable <;> cases h2 : s.now.rxTvalid <;> cases h3 : s.now.rxTlast <;>
    cases h4 : s.asm.discard <;> simp [intake, intakeEnabled, intakeDisabled, h1, h2, h3, h4]

/-- A frame completes only while enabled, with the tlast byte, outside a discard (R550, R552). -/
theorem intake_completes {s s1 : State} {i : Instr} (h : intake s = (s1, some i)) :
    s.enable = true ∧ s.now.rxTvalid = true ∧ s.now.rxTlast = true ∧ s.asm.discard = false ∧
      s1 = { s with asm := s.asm.take s.now.rxTdata } ∧ i = s1.completedFrame := by
  cases h1 : s.enable <;> cases h2 : s.now.rxTvalid <;> cases h3 : s.now.rxTlast <;>
    cases h4 : s.asm.discard <;> simp [intake, intakeEnabled, h1, h2, h3, h4] at h ⊢
  obtain ⟨rfl, rfl⟩ := h
  exact ⟨rfl, rfl⟩

/-! ### The output engine -/

/-- Everything the handshake can do (R602). -/
theorem handshake_cases (s : State) :
    (handshake s = s ∧ (s.eng.busy = false ∨ s.now.txTready = false)) ∨
    (handshake s = { s with eng := { s.eng with idx := s.eng.idx + 1 } } ∧ s.eng.busy = true ∧
      s.engineAtLast = false) ∨
    (handshake s = finishFrame s ∧ s.eng.busy = true ∧ s.engineAtLast = true) := by
  cases h1 : s.eng.busy <;> cases h2 : s.now.txTready <;> cases h3 : s.engineAtLast <;>
    simp [handshake, h1, h2, h3]

/-- When the arbiter grants an ack (R603). -/
theorem arbiter_eq_ack_iff (s : State) :
    s.arbiter = some .ack ↔
      s.eng.busy = false ∧ s.enable = true ∧ s.now.chanErr = false ∧ s.ack.pend = true := by
  cases h1 : s.eng.busy <;> cases h2 : s.enable <;> cases h3 : s.now.chanErr <;> cases h4 : s.ack.pend <;>
    simp [State.arbiter, h1, h2, h3, h4]

/-- When the arbiter grants a data frame (R603). -/
theorem arbiter_eq_data_iff (s : State) :
    s.arbiter = some .data ↔
      s.eng.busy = false ∧ s.enable = true ∧ s.now.chanErr = false ∧ s.ack.pend = false ∧
        s.snd.st = .sending ∧ s.snd.frameReady = true ∧ s.snd.started = false ∧
        s.snd.abortPend = false := by
  cases h1 : s.eng.busy <;> cases h2 : s.enable <;> cases h3 : s.now.chanErr <;> cases h4 : s.ack.pend <;>
    simp [State.arbiter, h1, h2, h3, h4]

/-- P4 is the handshake and then what the arbiter grants (R602, R603). -/
theorem txPhase_eq (s : State) :
    txPhase s = .next (match (handshake s).arbiter with
      | none => handshake s
      | some .ack => loadAck (handshake s)
      | some .data => loadData (handshake s)) := by
  unfold txPhase State.grant?
  cases h : (handshake s).arbiter with
  | none => simp [h]
  | some k => cases k <;> simp [decodeGrant, exec, execTxAckFrame, execTxDataFrame, h]

end Sys2Proof.Machine
end

