-- ==== Sys2Proof/Laws/Words.lean ====
section
/-! SUPPORT. The fields of a bus word (R310): packing and unpacking agree. -/

namespace Sys2Proof

@[simp] theorem wordWe_busWord (we : Bool) (a : Addr) (v : Byte) : wordWe (busWord we a v) = we := by
  simp [wordWe, busWord]

@[simp] theorem wordAddr_busWord (we : Bool) (a : Addr) (v : Byte) : wordAddr (busWord we a v) = a := by
  ext i hi
  have h1 : i + 8 < 19 := by omega
  simp [wordAddr, busWord, BitVec.getLsbD_eq_getElem, hi, h1, Nat.add_comm 8 i]

@[simp] theorem wordData_busWord (we : Bool) (a : Addr) (v : Byte) : wordData (busWord we a v) = v := by
  ext i hi
  have h1 : i < 19 := by omega
  have h2 : i < 18 := by omega
  simp [wordData, busWord, hi, h1, h2]

/-- A word is the packing of its three fields. -/
theorem busWord_fields (w : BusWord) : busWord (wordWe w) (wordAddr w) (wordData w) = w := by
  ext i hi
  have : i < 8 ∨ (8 ≤ i ∧ i < 18) ∨ i = 18 := by omega
  rcases this with h | h | h
  · have h1 : i < 18 := by omega
    simp [wordWe, wordAddr, wordData, busWord, h, h1, BitVec.getLsbD_eq_getElem hi]
  · have h2 : ¬ i < 8 := by omega
    have h3 : i - 8 < 10 := by omega
    have h4 : 8 + (i - 8) = i := by omega
    simp [wordWe, wordAddr, wordData, busWord, h, h2, h3, h4, BitVec.getLsbD_eq_getElem hi]
  · subst h
    simp [wordWe, wordAddr, wordData, busWord]

end Sys2Proof
end

