-- ==== Sys2Proof/Laws/PerInstr.lean ====
section
/-! SUPPORT. The per-instruction family RowPattern: what every instruction encodes to has the shape its row of
spec/opcode_table.json gives. -/

namespace Sys2Proof.Laws

/-- What R323 says of the bytes of a frame class; the other rows are no frames. -/
def frameShape (i : Instr) (f : List Byte) : Prop :=
  match i with
  | .rxTrunc _ => f.length < Config.hdrLen
  | .rxBadsum _ _ => Config.hdrLen ≤ f.length
  | .rxAck _ => f.length = 9 ∧ f.drop Config.hdrLen = Config.ackSentinel
  | .rxData _ _ => Config.hdrLen ≤ f.length ∧ f.drop Config.hdrLen ≠ Config.ackSentinel
  | _ => False

/-- A well-formed instruction encodes to a word its row's match and mask take, to a frame of its class's
shape, or to a grant of the arbiter. -/
def RowPattern.Statement (i : Instr) : Prop :=
  wellFormed i = true →
    match encode i with
    | .bus w => ∃ r, tableRow i = some r ∧ w &&& r.2 = r.1
    | .frame f => tableRow i = none ∧ frameShape i f
    | .grant _ => tableRow i = none

/-- Masking a write word with the table's full-address mask leaves WE and the address. -/
theorem maskedWrite (a : Addr) (v : Byte) : busWord true a v &&& 0x7FF00#19 = busWord true a 0#8 := by
  ext i hi
  interval_cases i <;> simp [busWord]

theorem RowPattern.rd (addr : Addr) : RowPattern.Statement (.rd addr) := by
  intro _
  refine ⟨_, rfl, ?_⟩
  ext i hi
  have hm : ∀ j, j < 19 → (0x40000#19).getLsbD j = decide (j = 18) := by decide
  have h := hm i hi
  rw [BitVec.getLsbD_eq_getElem hi] at h
  by_cases h18 : i = 18
  · subst h18
    simp [busWord, h]
  · simp [busWord, h, h18]

theorem RowPattern.wrCtrl (v : Byte) : RowPattern.Statement (.wrCtrl v) :=
  fun _ => ⟨_, rfl, maskedWrite _ _⟩

theorem RowPattern.wrStatus (v : Byte) : RowPattern.Statement (.wrStatus v) :=
  fun _ => ⟨_, rfl, maskedWrite _ _⟩

theorem RowPattern.wrIrqEn (v : Byte) : RowPattern.Statement (.wrIrqEn v) :=
  fun _ => ⟨_, rfl, maskedWrite _ _⟩

theorem RowPattern.wrNodeAddr (v : Byte) : RowPattern.Statement (.wrNodeAddr v) :=
  fun _ => ⟨_, rfl, maskedWrite _ _⟩

theorem RowPattern.wrTxMcs (v : Byte) : RowPattern.Statement (.wrTxMcs v) :=
  fun _ => ⟨_, rfl, maskedWrite _ _⟩

theorem RowPattern.wrTxDest (v : Byte) : RowPattern.Statement (.wrTxDest v) :=
  fun _ => ⟨_, rfl, maskedWrite _ _⟩

theorem RowPattern.wrTxLen (v : Byte) : RowPattern.Statement (.wrTxLen v) :=
  fun _ => ⟨_, rfl, maskedWrite _ _⟩

theorem RowPattern.wrAckTimeoutLo (v : Byte) : RowPattern.Statement (.wrAckTimeoutLo v) :=
  fun _ => ⟨_, rfl, maskedWrite _ _⟩

theorem RowPattern.wrAckTimeoutHi (v : Byte) : RowPattern.Statement (.wrAckTimeoutHi v) :=
  fun _ => ⟨_, rfl, maskedWrite _ _⟩

theorem RowPattern.wrFrameTimeLo (v : Byte) : RowPattern.Statement (.wrFrameTimeLo v) :=
  fun _ => ⟨_, rfl, maskedWrite _ _⟩

theorem RowPattern.wrFrameTimeHi (v : Byte) : RowPattern.Statement (.wrFrameTimeHi v) :=
  fun _ => ⟨_, rfl, maskedWrite _ _⟩

theorem RowPattern.wrCntTxData (v : Byte) : RowPattern.Statement (.wrCntTxData v) :=
  fun _ => ⟨_, rfl, maskedWrite _ _⟩

theorem RowPattern.wrCntTxAck (v : Byte) : RowPattern.Statement (.wrCntTxAck v) :=
  fun _ => ⟨_, rfl, maskedWrite _ _⟩

theorem RowPattern.wrCntRxDeliv (v : Byte) : RowPattern.Statement (.wrCntRxDeliv v) :=
  fun _ => ⟨_, rfl, maskedWrite _ _⟩

theorem RowPattern.wrCntRxCksum (v : Byte) : RowPattern.Statement (.wrCntRxCksum v) :=
  fun _ => ⟨_, rfl, maskedWrite _ _⟩

theorem RowPattern.wrCntRxTrunc (v : Byte) : RowPattern.Statement (.wrCntRxTrunc v) :=
  fun _ => ⟨_, rfl, maskedWrite _ _⟩

theorem RowPattern.wrCntRxFilt (v : Byte) : RowPattern.Statement (.wrCntRxFilt v) :=
  fun _ => ⟨_, rfl, maskedWrite _ _⟩

theorem RowPattern.wrCntRxOverrun (v : Byte) : RowPattern.Statement (.wrCntRxOverrun v) :=
  fun _ => ⟨_, rfl, maskedWrite _ _⟩

theorem RowPattern.wrCntTimeout (v : Byte) : RowPattern.Statement (.wrCntTimeout v) :=
  fun _ => ⟨_, rfl, maskedWrite _ _⟩

theorem RowPattern.wrCntRxAck (v : Byte) : RowPattern.Statement (.wrCntRxAck v) :=
  fun _ => ⟨_, rfl, maskedWrite _ _⟩

theorem RowPattern.wrTxBuf (idx v : Byte) : RowPattern.Statement (.wrTxBuf idx v) := by
  intro _
  refine ⟨_, rfl, ?_⟩
  ext i hi
  interval_cases i <;> simp [busWord]
theorem RowPattern.nop : RowPattern.Statement (.nop) :=
  fun _ => ⟨_, rfl, by decide⟩

theorem RowPattern.send : RowPattern.Statement (.send) :=
  fun _ => ⟨_, rfl, by decide⟩

theorem RowPattern.abort : RowPattern.Statement (.abort) :=
  fun _ => ⟨_, rfl, by decide⟩

theorem RowPattern.rxRelease : RowPattern.Statement (.rxRelease) :=
  fun _ => ⟨_, rfl, by decide⟩

theorem RowPattern.rxAccept : RowPattern.Statement (.rxAccept) :=
  fun _ => ⟨_, rfl, by decide⟩

theorem RowPattern.softReset : RowPattern.Statement (.softReset) :=
  fun _ => ⟨_, rfl, by decide⟩

theorem RowPattern.cmdIllegal (code : Byte) : RowPattern.Statement (.cmdIllegal code) :=
  fun _ => ⟨_, rfl, maskedWrite _ _⟩

theorem RowPattern.wrIgnored (addr : Addr) (v : Byte) : RowPattern.Statement (.wrIgnored addr v) := by
  intro _
  refine ⟨_, rfl, ?_⟩
  ext i hi
  have hm : ∀ j, j < 19 → (0x40000#19).getLsbD j = decide (j = 18) := by decide
  have h := hm i hi
  rw [BitVec.getLsbD_eq_getElem hi] at h
  by_cases h18 : i = 18
  · subst h18
    simp [busWord]
  · simp [busWord, h, h18]

theorem RowPattern.rxTrunc (bytes : List Byte) : RowPattern.Statement (.rxTrunc bytes) := by
  intro h
  refine ⟨rfl, ?_⟩
  simpa [wellFormed, frameShape] using h

theorem RowPattern.rxBadsum (h : Header) (payload : List Byte) : RowPattern.Statement (.rxBadsum h payload) :=
  fun _ => ⟨rfl, by simp [frameShape, Machine.frameBytes, Machine.headerBytes, Config.hdrLen]⟩

theorem RowPattern.rxAck (h : Header) : RowPattern.Statement (.rxAck h) :=
  fun _ => ⟨rfl, rfl, rfl⟩

theorem RowPattern.rxData (h : Header) (payload : List Byte) : RowPattern.Statement (.rxData h payload) := by
  intro hw
  refine ⟨rfl, by simp [Machine.frameBytes, Machine.headerBytes, Config.hdrLen], ?_⟩
  simp [wellFormed, Machine.isAck] at hw
  simpa [Machine.frameBytes, Machine.headerBytes, Config.hdrLen] using hw.2

theorem RowPattern.txDataFrame : RowPattern.Statement (.txDataFrame) :=
  fun _ => rfl

theorem RowPattern.txAckFrame : RowPattern.Statement (.txAckFrame) :=
  fun _ => rfl

end Sys2Proof.Laws
end

