-- ==== Sys2Proof/Tests/Slice0.lean ====
section
/-! SUPPORT. The author's own tests: the well-formedness smoke test, every row's decoding from a word written
out from spec/30_encoding.md and spec/opcode_table.json, small one-step tests against spec/95_test_vectors.md,
and a witness for the hypotheses of every obligation. -/

namespace Sys2Proof.Machine.Tests

/-! ### Helpers -/

/-- The HELLO frame (W2). -/
def hello : List Byte :=
  [0x00#8, 0x05#8, 0x00#8, 0x03#8, 0x01#8, 0x7D#8, 0x48#8, 0x45#8, 0x4C#8, 0x4C#8, 0x4F#8]

/-- The header of HELLO (W2). -/
def helloHdr : Header := ⟨0x00#8, 0x05#8, 0x00#8, 0x03#8, 0x01#8, 0x7D#8⟩

/-- The payload of HELLO (W2). -/
def helloPay : List Byte := [0x48#8, 0x45#8, 0x4C#8, 0x4C#8, 0x4F#8]

/-- The header of the ack of HELLO (W2). -/
def ackHdr : Header := ⟨0x00#8, 0x03#8, 0x00#8, 0x01#8, 0x03#8, 0xD6#8⟩

/-- A valid header-only frame's header for node d (V-COD-16 for d = 3). -/
def bareHdr (d : Byte) : Header := ⟨0, 0, 0, d, 0, d⟩

/-- Node 3, enabled, AUTO_ACK = 1 (section 4 of the vectors), with the given pins. -/
def up (p : Pins) : State :=
  { State.reset with
    regs := { Regs.reset with ctrl := 0x03#8, nodeAddr := 0x03#8 }
    inputs := [p] }

/-- Quiet pins, with the transport ready. -/
def ready : Pins := { Pins.quiet with txTready := true }

/-- Pins of a host write (R310). -/
def wr (a : Addr) (v : Byte) : Pins := { Pins.quiet with busWe := true, busAddr := a, busWdata := v }

/-- up with the sender in a state, its frame prepared. -/
def inState (st : SenderState) (p : Pins) : State :=
  { up p with snd := { Sender.reset with st := st, frameReady := true, attempt := 1 } }

/-- The registers of section 3 of the vectors: node 1, "H" to node 3. -/
def sender1 (p : Pins) : State :=
  { State.reset with
    regs := { Regs.reset with ctrl := 0x03#8, nodeAddr := 0x01#8, txDest := 0x03#8, txLen := 0x01#8 }
    mem := [(0x100, 0x48#8)]
    inputs := [p] }

/-- One byte prepared and its data frame loaded: 00 01 00 03 01 4D 48. -/
def streaming (p : Pins) : State :=
  loadData
    { sender1 p with
      snd := { Sender.reset with
        st := .sending, hdrL := ⟨0, 1, 0, 3, 1⟩, csum := 0x4D#8, prepIdx := 1, frameReady := true, attempt := 1 } }

/-- An ack for HELLO loaded in the engine. -/
def acking (p : Pins) : State := loadAck { up p with ack := ⟨true, 0, 0, 1⟩ }

/-- The engine at its frame's last byte. -/
def atLast (s : State) : State :=
  { s with eng := { s.eng with idx := BitVec.ofNat 9 (s.eng.plen.toNat + 5) } }

/-! ### WellFormed: an ill-formed term for each check, refused -/

theorem test_wf_txBuf_index_255 : wellFormed (.wrTxBuf 0xFF#8 0x00#8) = false := by decide
theorem test_wf_cmdIllegal_assigned_code : wellFormed (.cmdIllegal 0x01#8) = false := by decide
theorem test_wf_wrIgnored_writable_register : wellFormed (.wrIgnored 0x002#10 0x00#8) = false := by decide
theorem test_wf_wrIgnored_txBuf : wellFormed (.wrIgnored 0x1FE#10 0x00#8) = false := by decide
theorem test_wf_rxTrunc_six_bytes : wellFormed (.rxTrunc [0, 0, 0, 0, 0, 0]) = false := by decide
theorem test_wf_rxBadsum_good_sum : wellFormed (.rxBadsum helloHdr helloPay) = false := by decide
theorem test_wf_rxAck_bad_sum : wellFormed (.rxAck helloHdr) = false := by decide
theorem test_wf_rxData_ack_payload : wellFormed (.rxData ackHdr [0x41#8, 0x43#8, 0x4B#8]) = false := by decide
theorem test_wf_rxData_bad_sum : wellFormed (.rxData helloHdr []) = false := by decide

/-! ### Decoding: one word for each row, written out from its encoding -/

theorem test_decode_rd : decodeTableWord 24 0x01200 = some (.rd 0x012#10) := by decide
theorem test_decode_wrCtrl : decodeTableWord 24 0x40203 = some (.wrCtrl 0x03#8) := by decide
theorem test_decode_wrStatus : decodeTableWord 24 0x40402 = some (.wrStatus 0x02#8) := by decide
theorem test_decode_wrIrqEn : decodeTableWord 24 0x405FF = some (.wrIrqEn 0xFF#8) := by decide
theorem test_decode_wrNodeAddr : decodeTableWord 24 0x40601 = some (.wrNodeAddr 0x01#8) := by decide
theorem test_decode_wrTxMcs : decodeTableWord 24 0x40800 = some (.wrTxMcs 0x00#8) := by decide
theorem test_decode_wrTxDest : decodeTableWord 24 0x40903 = some (.wrTxDest 0x03#8) := by decide
theorem test_decode_wrTxLen : decodeTableWord 24 0x40A05 = some (.wrTxLen 0x05#8) := by decide
theorem test_decode_wrAckTimeoutLo : decodeTableWord 24 0x40E02 = some (.wrAckTimeoutLo 0x02#8) := by decide
theorem test_decode_wrAckTimeoutHi : decodeTableWord 24 0x40F01 = some (.wrAckTimeoutHi 0x01#8) := by decide
theorem test_decode_wrFrameTimeLo : decodeTableWord 24 0x41001 = some (.wrFrameTimeLo 0x01#8) := by decide
theorem test_decode_wrFrameTimeHi : decodeTableWord 24 0x41180 = some (.wrFrameTimeHi 0x80#8) := by decide
theorem test_decode_wrCntTxData : decodeTableWord 24 0x42000 = some (.wrCntTxData 0x00#8) := by decide
theorem test_decode_wrCntTxAck : decodeTableWord 24 0x42101 = some (.wrCntTxAck 0x01#8) := by decide
theorem test_decode_wrCntRxDeliv : decodeTableWord 24 0x42202 = some (.wrCntRxDeliv 0x02#8) := by decide
theorem test_decode_wrCntRxCksum : decodeTableWord 24 0x42303 = some (.wrCntRxCksum 0x03#8) := by decide
theorem test_decode_wrCntRxTrunc : decodeTableWord 24 0x42404 = some (.wrCntRxTrunc 0x04#8) := by decide
theorem test_decode_wrCntRxFilt : decodeTableWord 24 0x42505 = some (.wrCntRxFilt 0x05#8) := by decide
theorem test_decode_wrCntRxOverrun : decodeTableWord 24 0x42606 = some (.wrCntRxOverrun 0x06#8) := by decide
theorem test_decode_wrCntTimeout : decodeTableWord 24 0x42707 = some (.wrCntTimeout 0x07#8) := by decide
theorem test_decode_wrCntRxAck : decodeTableWord 24 0x42808 = some (.wrCntRxAck 0x08#8) := by decide
theorem test_decode_wrTxBuf : decodeTableWord 24 0x5044F = some (.wrTxBuf 0x04#8 0x4F#8) := by decide
theorem test_decode_nop : decodeTableWord 24 0x40300 = some .nop := by decide
theorem test_decode_send : decodeTableWord 24 0x40301 = some .send := by decide
theorem test_decode_abort : decodeTableWord 24 0x40302 = some .abort := by decide
theorem test_decode_rxRelease : decodeTableWord 24 0x40303 = some .rxRelease := by decide
theorem test_decode_rxAccept : decodeTableWord 24 0x40304 = some .rxAccept := by decide
theorem test_decode_softReset : decodeTableWord 24 0x4030F = some .softReset := by decide
theorem test_decode_cmdIllegal : decodeTableWord 24 0x40305 = some (.cmdIllegal 0x05#8) := by decide
theorem test_decode_wrIgnored : decodeTableWord 24 0x40705 = some (.wrIgnored 0x007#10 0x05#8) := by decide
theorem test_decode_rxTrunc : decodeFrame (hello.take 5) = .rxTrunc [0x00#8, 0x05#8, 0x00#8, 0x03#8, 0x01#8] := by
  decide
/-- V-RX-4. -/
theorem test_decode_rxBadsum : decodeFrame (hello.set 5 0x7C#8) = .rxBadsum { helloHdr with cksum := 0x7C#8 } helloPay := by
  decide
/-- V-RX-6, as the bits of an opcode-table word: wire byte 0 is bits 7..0. -/
theorem test_decode_rxAck : decodeTableWord 72 0x4B4341D60301000300 = some (.rxAck ackHdr) := by decide
theorem test_decode_rxData : decodeFrame hello = .rxData helloHdr helloPay := by decide
theorem test_decode_txDataFrame : decode (.grant .data) = .txDataFrame := by decide
theorem test_decode_txAckFrame : decode (.grant .ack) = .txAckFrame := by decide
/-- R310: a word has 19 bits. R305: a frame is whole bytes. -/
theorem test_decode_refuses : decodeTableWord 24 0x80000 = none ∧ decodeTableWord 41 0 = none := by decide

/-! ### Codec vectors -/

/-- V-COD-1, V-COD-3, V-COD-4, V-COD-6. -/
theorem test_encode : encodeFrame 0 0 3 1 helloPay = .ok hello ∧
    encodeFrame 255 255 255 255 [0xFF#8] = .ok [0xFF#8, 0x01#8, 0xFF#8, 0xFF#8, 0xFF#8, 0xFC#8, 0xFF#8] ∧
    encodeFrame 0 0 0 0 [0x00#8] = .ok [0, 1, 0, 0, 0, 1, 0] ∧
    encodeFrame 0 0 3 1 [] = .error .invalidFieldRange ∧
    encodeFrame 256 0 3 1 helloPay = .error .invalidFieldRange := by decide
/-- V-COD-2. -/
theorem test_buildAck : buildAck ⟨helloHdr, helloPay⟩ 0x03#8 =
    .ok [0x00#8, 0x03#8, 0x00#8, 0x01#8, 0x03#8, 0xD6#8, 0x41#8, 0x43#8, 0x4B#8] := by decide
/-- V-COD-9, V-COD-10, V-COD-11. -/
theorem test_validate :
    validate ⟨⟨0x00#8, 0x05#8, 0x00#8, 0x03#8, 0x01#8, 0x96#8⟩, [0x48#8, 0x45#8]⟩ = true ∧
    validate ⟨helloHdr, helloPay.set 0 0x49#8⟩ = false ∧
    validate ⟨helloHdr, (helloPay.set 0 0x49#8).set 1 0x44#8⟩ = true := by decide
/-- V-COD-23: the running sum after byte 5, after byte 6, and after the last byte. -/
theorem test_streaming_sum :
    ((hello.take 6).foldl Assembler.take State.reset.asm).sum = 0x09#8 ∧
    ((hello.take 7).foldl Assembler.take State.reset.asm).sum = 0x51#8 ∧
    (hello.foldl Assembler.take State.reset.asm).sum = 0x7D#8 := by decide

/-! ### One-step tests -/

/-- R650's example. -/
theorem test_rd : State.reset.read 0x00B#10 = 0x00#8 ∧ State.reset.read 0x002#10 = 0x02#8 ∧
    State.reset.read 0x00E#10 = 0x32#8 := by decide
/-- R652: only bits 2:0 are stored. -/
theorem test_wrCtrl_masks : (nextState? (exec (.wrCtrl 0xFF#8) State.reset)).map (·.regs.ctrl) = some 0x07#8 := by
  decide
/-- V-SND-21. -/
theorem test_wrCtrl_disable :
    (nextState? (exec (.wrCtrl 0x02#8) (inState .awaitingAck ready))).map
      (fun t => (t.snd.st, t.regs.txFailCode, t.ack.pend)) = some (.idle, 0x03#8, false) := by decide
/-- P4, cycle 4: W1C clears TX_FAIL and keeps CMD_ERR. -/
theorem test_wrStatus :
    let s := up (wr 0x004#10 0x02#8)
    (nextState? (step { s with regs := { s.regs with status := 0x22#8 } })).map (·.regs.status) = some 0x20#8 := by
  decide
/-- R705: the enabled bit reaches irq in the next cycle. -/
theorem test_wrIrqEn :
    let s := up (wr 0x005#10 0x20#8)
    (nextState? (step { s with regs := { s.regs with status := 0x20#8 } })).map
      (fun t => (t.out.irq, t.irq)) = some (false, true) := by decide
/-- P4, cycle 1: locked while enabled. -/
theorem test_wrNodeAddr_locked :
    (nextState? (exec (.wrNodeAddr 0x05#8) (up ready))).map (fun t => (t.regs.nodeAddr, t.regs.cmdErrCode)) =
      some (0x03#8, 0x03#8) := by decide
theorem test_wrNodeAddr_open :
    (nextState? (exec (.wrNodeAddr 0x05#8) State.reset)).map (·.regs.nodeAddr) = some 0x05#8 := by decide
/-- R654, with each register's own address (R104). -/
theorem test_wrTxMcs : (nextState? (exec (.wrTxMcs 0x09#8) (up ready))).map (·.read 0x008#10) = some 0x09#8 := by
  decide
theorem test_wrTxDest : (nextState? (exec (.wrTxDest 0x09#8) (up ready))).map (·.read 0x009#10) = some 0x09#8 := by
  decide
/-- V-SND-23: refused in Delivered. -/
theorem test_wrTxLen_locked :
    (nextState? (exec (.wrTxLen 0x09#8) (inState .delivered ready))).map (fun t => (t.regs.txLen, t.regs.cmdErrCode)) =
      some (0x00#8, 0x03#8) := by decide
theorem test_wrTxLen : (nextState? (exec (.wrTxLen 0x09#8) (up ready))).map (·.read 0x00A#10) = some 0x09#8 := by
  decide
theorem test_wrTimes :
    (nextState? (exec (.wrAckTimeoutLo 0x34#8) State.reset)).map (·.ackTimeout) = some 0x0034 ∧
    (nextState? (exec (.wrAckTimeoutHi 0x12#8) State.reset)).map (·.ackTimeout) = some 0x1232 ∧
    (nextState? (exec (.wrFrameTimeLo 0x00#8) State.reset)).map (·.ftEff) = some 1 ∧
    (nextState? (exec (.wrFrameTimeHi 0x01#8) State.reset)).map (·.frameTime) = some 0x010A := by decide
/-- R658: any byte clears the counter, and only that counter. -/
theorem test_counter_clears :
    let s : State := { State.reset with cnt := ⟨1, 2, 3, 4, 5, 6, 7, 8, 9⟩ }
    ([.wrCntTxData 7, .wrCntTxAck 7, .wrCntRxDeliv 7, .wrCntRxCksum 7, .wrCntRxTrunc 7, .wrCntRxFilt 7,
      .wrCntRxOverrun 7, .wrCntTimeout 7, .wrCntRxAck 7].map fun i => (nextState? (exec i s)).map (·.cnt)) =
    [some ⟨0, 2, 3, 4, 5, 6, 7, 8, 9⟩, some ⟨1, 0, 3, 4, 5, 6, 7, 8, 9⟩, some ⟨1, 2, 0, 4, 5, 6, 7, 8, 9⟩,
      some ⟨1, 2, 3, 0, 5, 6, 7, 8, 9⟩, some ⟨1, 2, 3, 4, 0, 6, 7, 8, 9⟩, some ⟨1, 2, 3, 4, 5, 0, 7, 8, 9⟩,
      some ⟨1, 2, 3, 4, 5, 6, 0, 8, 9⟩, some ⟨1, 2, 3, 4, 5, 6, 7, 0, 9⟩, some ⟨1, 2, 3, 4, 5, 6, 7, 8, 0⟩] := by
  decide
theorem test_wrTxBuf :
    (nextState? (exec (.wrTxBuf 0xFE#8 0x5A#8) (sender1 ready))).map
      (fun t => (t.read 0x1FE#10, t.read 0x100#10)) = some (0x5A#8, 0x48#8) := by decide
/-- R660, R661, R651. -/
theorem test_nop : (nextState? (exec .nop (up ready))) = some (up ready) := by decide
theorem test_cmdIllegal :
    (nextState? (exec (.cmdIllegal 0x05#8) (up ready))).map (fun t => (t.regs.cmdErrCode, t.cyc.setmask)) =
      some (0x01#8, 0x20#8) := by decide
theorem test_wrIgnored : (nextState? (exec (.wrIgnored 0x007#10 0x05#8) (up ready))) = some (up ready) := by decide
/-- V-SND-1: TX_STATE 0x01, TX_ATTEMPT 1, TX_CKSUM first reads the header's sum. -/
theorem test_send :
    (nextState? (exec .send (sender1 ready))).map
      (fun t => (t.read 0x00B#10, t.read 0x00C#10, t.read 0x01C#10)) = some (0x01#8, 0x01#8, 0x05#8) := by decide
/-- V-SND-3: Disabled is checked before the length. -/
theorem test_send_disabled :
    (nextState? (exec .send { up ready with regs := Regs.reset })).map
      (fun t => (t.regs.cmdErrCode, t.regs.txFailCode)) = some (4#8, 0#8) := by decide
/-- V-SND-23: a SEND in the cycle that starts in Delivered is accepted (log entry 21). -/
theorem test_send_after_match :
    let s := sender1 (wr 0x003#10 0x01#8)
    (nextState? (step { s with snd := { s.snd with st := .delivered, frameReady := true, attempt := 1 } })).map
      (fun t => (t.snd.st, t.regs.cmdErrCode)) = some (.sending, 0#8) := by decide
/-- V-SND-19, V-SND-20. -/
theorem test_abort_pending :
    (nextState? (exec .abort (streaming ready))).map (·.read 0x00B#10) = some 0x39#8 := by decide
theorem test_abort_waiting :
    (nextState? (exec .abort (inState .backingOff ready))).map (fun t => (t.snd.st, t.regs.txFailCode)) =
      some (.idle, 3#8) := by decide
/-- R662: the engine stops and the registers are reset. -/
theorem test_softReset :
    (nextState? (exec .softReset (streaming ready))).map (fun t => (t.eng.busy, t.regs.ctrl, t.mem)) =
      some (false, 0x02#8, []) := by decide
/-- V-RX-1, in one step after the first ten bytes: RX_STAT reads 0x43 in the next cycle. -/
theorem test_rxData_step :
    let s := up (pinsOfByte 0x4F#8 true)
    (nextState? (step { s with asm := (hello.take 10).foldl Assembler.take s.asm })).map
      (fun t => (t.read 0x012#10, t.read 0x019#10, t.read 0x204#10, t.read 0x022#10, t.regs.status)) =
      some (0x43#8, 0x05#8, 0x4F#8, 0x01#8, 0x04#8) := by decide
/-- V-RX-5. -/
theorem test_rxData_filtered :
    (nextState? (exec (.rxData ⟨0, 5, 0, 4, 1, 0x7E#8⟩ helloPay) (up ready))).map
      (fun t => (t.regs.rxDropCode, t.cnt.rxFilt, t.regs.rxValid)) = some (3#8, 1#8, false) := by decide
/-- V-RX-3, V-RX-4. -/
theorem test_rxTrunc :
    (nextState? (exec (.rxTrunc (hello.take 5)) (up ready))).map (fun t => (t.regs.rxDropCode, t.cnt.rxTrunc)) =
      some (1#8, 1#8) := by decide
theorem test_rxBadsum :
    (nextState? (exec (.rxBadsum { helloHdr with cksum := 0x7C#8 } helloPay) (up ready))).map
      (fun t => (t.regs.rxDropCode, t.cnt.rxCksum)) = some (2#8, 1#8) := by decide
/-- V-SND-12: an ack with other addresses matches; one with another sequence number does not. -/
theorem test_rxAck_match :
    (nextState? (exec (.rxAck ⟨0, 3, 0, 9, 7, 0xE2#8⟩) (inState .awaitingAck ready))).map
      (fun t => (t.cyc.ackMatch, t.cnt.rxAck)) = some (true, 1#8) := by decide
theorem test_rxAck_other_seq :
    (nextState? (exec (.rxAck ⟨0, 3, 1, 1, 3, 0xD7#8⟩) (inState .awaitingAck ready))).map
      (fun t => (t.cyc.ackMatch, t.cnt.rxAck)) = some (false, 1#8) := by decide
/-- R558, R559. -/
theorem test_rxRelease_none :
    (nextState? (exec .rxRelease (up ready))).map (·.regs.cmdErrCode) = some 5#8 := by decide
theorem test_rxRelease :
    let s := up ready
    (nextState? (exec .rxRelease { s with regs := { s.regs with rxValid := true, rxCount := 5#8 } })).map
      (fun t => (t.regs.rxValid, t.regs.rxCount)) = some (false, 5#8) := by decide
theorem test_rxAccept :
    let s := up ready
    (nextState? (exec .rxAccept { s with regs := { s.regs with rxValid := true, rxHdr := helloHdr } })).map
      (fun t => (t.ack, t.regs.rxValid)) = some (⟨true, 0, 0, 1⟩, false) := by decide
/-- R604's example and R605's shape. -/
theorem test_txAckFrame :
    (nextState? (exec .txAckFrame { up ready with ack := ⟨true, 0, 0, 1⟩ })).map (fun t => (t.eng.hdr, t.ack.pend)) =
      some (ackHdr, false) := by decide
theorem test_txDataFrame :
    let s := streaming ready
    (nextState? (exec .txDataFrame
      { s with eng := State.reset.eng, snd := { s.snd with started := false } })).map (·.engineFrame) =
      some [0x00#8, 0x01#8, 0x00#8, 0x03#8, 0x01#8, 0x4D#8, 0x48#8] := by decide
/-- V-SND-13, V-SND-22, V-SND-6. -/
theorem test_match_beats_tick :
    (nextState? (step
      { inState .awaitingAck { pinsOfByte 0x4B#8 true with tick := true } with
        asm := ([0x00#8, 0x03#8, 0x00#8, 0x01#8, 0x03#8, 0xD6#8, 0x41#8, 0x43#8] : List Byte).foldl Assembler.take
          State.reset.asm })).map
      (fun t => (t.snd.st, t.regs.seq, t.regs.status, t.cnt.timeout)) = some (.delivered, 1#8, 0x01#8, 0#8) := by
  decide
theorem test_chanErr :
    (nextState? (step (inState .awaitingAck { ready with chanErr := true }))).map
      (fun t => (t.snd.st, t.regs.txFailCode, t.regs.status, t.regs.seq)) = some (.idle, 2#8, 0x42#8, 0#8) := by
  decide
theorem test_timeout :
    let s := inState .awaitingAck { ready with tick := true }
    (nextState? (step
      { s with
        regs := { s.regs with ackTimeoutLo := 0x02#8 }
        snd := { s.snd with elapsed := 1 } })).map
      (fun t => (t.snd.st, t.snd.attempt, t.cnt.timeout, t.regs.status)) = some (.backingOff, 2#8, 1#8, 0x10#8) := by
  decide
/-- R800. -/
theorem test_rst :
    (nextState? (step (streaming { ready with rst := true }))).map (fun t => (t.snd.st, t.regs.ctrl, t.eng.busy)) =
      some (.idle, 0x02#8, false) := by decide
/-- withFetchWord runs the word as the first instruction after reset. -/
theorem test_fetch_word :
    (nextState? (step (State.reset.withFetchWord 24 0x40601))).map (·.regs.nodeAddr) = some 0x01#8 ∧
    (nextState? (step (State.reset.withFetchWord 72 0x4B4341D60301000300))).map (·.cnt.rxAck) = some 1#8 := by
  decide

/-! ### Witnesses: states and operands that meet the hypotheses of each obligation, clause by clause -/

/-- A send whose checksum pass has not begun. -/
def preparing (p : Pins) : State := startSend (sender1 p)

/-- AwaitingAck, one tick before the timeout of the reset ACK_TIMEOUT (50). -/
def lastTick (p : Pins) : State :=
  let s := inState .awaitingAck p
  { s with snd := { s.snd with elapsed := 49 } }

/-- Quiet pins with a tick. -/
def tick : Pins := { Pins.quiet with tick := true }

theorem test_wit_DecodeOfEncodeIsTheInstruction :
    wellFormed (.wrTxBuf 0xFE#8 0xFF#8) = true ∧ wellFormed (.wrIgnored 0x3FF#10 0x00#8) = true ∧
    wellFormed (.rxTrunc []) = true ∧ wellFormed (.rxData helloHdr helloPay) = true := by decide

theorem test_wit_EveryEncodingDecodesWellFormed :
    (hello.take 5).length < 6 ∧ validate ⟨{ helloHdr with cksum := 0x7C#8 }, helloPay⟩ = false ∧
    validate ⟨ackHdr, [0x41#8, 0x43#8, 0x4B#8]⟩ = true ∧
    (validate ⟨bareHdr 3, []⟩ = true ∧ ([] : List Byte) ≠ [0x41#8, 0x43#8, 0x4B#8]) := by decide

theorem test_wit_EncodeOfDecodeIsTheEncoding : wordWe 0x40000#19 = true ∧ wordWe 0x7FFFF#19 = true := by decide

theorem test_wit_EncodedFrameDecodesAndValidates :
    (1 ≤ ([0x00#8] : List Byte).length ∧ ([0x00#8] : List Byte).length ≤ 255) ∧
    (1 ≤ (List.replicate 255 0x01#8).length ∧ (List.replicate 255 0x01#8).length ≤ 255) := by
  simp only [List.length_replicate]
  decide

theorem test_wit_CodecErrorsAreExact : (hello.take 5).length < 6 ∧ 6 ≤ (hello.take 6).length := by decide

theorem test_wit_SingleBitFlipsAreDetected :
    validate ⟨helloHdr, helloPay⟩ = true ∧ 10 < (frameBytes ⟨helloHdr, helloPay⟩).length ∧ 7 < 8 := by decide

theorem test_wit_ReadMapOfTheHostSpace :
    0 < 255 ∧ 254 < 255 ∧
    ∀ n ∈ [0x01D, 0x01F, 0x029, 0x0FF, 0x1FF, 0x2FF, 0x3FF],
      let a : Addr := BitVec.ofNat 10 n
      (0x01D ≤ a.toNat ∧ a.toNat ≤ 0x01F) ∨ (0x029 ≤ a.toNat ∧ a.toNat ≤ 0x0FF) ∨ a.toNat = 0x1FF ∨
        0x2FF ≤ a.toNat := by decide

theorem test_wit_ControlWrite_store : ¬((up ready).enable = true ∧ (0x01#8).getLsbD 0 = false) := by decide
theorem test_wit_ControlWrite_idle :
    (up ready).enable = true ∧ (0x00#8).getLsbD 0 = false ∧ (up ready).snd.st = .idle := by decide
theorem test_wit_ControlWrite_streaming :
    let s := streaming ready
    s.enable = true ∧ (0x02#8).getLsbD 0 = false ∧ s.snd.st = .sending ∧ s.snd.started = true ∧
      s.eng.busy = true ∧ s.eng.kind = .data := by decide
theorem test_wit_ControlWrite_fails :
    let s := preparing ready
    s.enable = true ∧ (0x02#8).getLsbD 0 = false ∧ s.snd.st = .sending ∧ s.snd.started = false := by decide

theorem test_wit_NodeAddressWrite : State.reset.enable = false ∧ (up ready).enable = true := by decide

theorem test_wit_TxRegisterWrites :
    (up ready).snd.st = .idle ∧ (inState .delivered ready).snd.st ≠ .idle := by decide

theorem test_wit_TxBufferWrite :
    (0x00#8).toNat < 255 ∧ (0xFE#8).toNat < 255 ∧ (up ready).snd.st = .idle ∧
      (streaming ready).snd.st ≠ .idle ∧ (0xFF#8).toNat = 255 := by decide

theorem test_wit_NopAndIgnoredWrites :
    ∀ n ∈ [0x000, 0x01F, 0x029, 0x0FF, 0x1FF, 0x3FF],
      let a : Addr := BitVec.ofNat 10 n
      a.toNat ∈ [0x000, 0x001, 0x007, 0x00B, 0x00C, 0x00D, 0x012, 0x013, 0x014, 0x015, 0x016, 0x017, 0x018,
        0x019, 0x01A, 0x01B, 0x01C, 0x01D, 0x01E, 0x01F] ∨
        (0x029 ≤ a.toNat ∧ a.toNat ≤ 0x0FF) ∨ 0x1FF ≤ a.toNat := by decide

theorem test_wit_IllegalCommand :
    ∀ c ∈ [0x05#8, 0x0E#8, 0x10#8, 0xFF#8], (0x05 ≤ c.toNat ∧ c.toNat ≤ 0x0E) ∨ 0x10 ≤ c.toNat := by decide

theorem test_wit_SendStartsTheTransmission :
    let s := sender1 ready
    s.now.chanErr = false ∧ s.enable = true ∧ s.snd.st = .idle ∧ s.regs.txLen ≠ 0x00#8 := by decide

theorem test_wit_SendReports_transport : (up { ready with chanErr := true }).now.chanErr = true := by decide
theorem test_wit_SendReports_disabled :
    let s : State := { up ready with regs := Regs.reset }
    s.now.chanErr = false ∧ s.enable = false := by decide
theorem test_wit_SendReports_busy :
    let s := inState .delivered ready
    s.now.chanErr = false ∧ s.enable = true ∧ s.snd.st ≠ .idle := by decide
theorem test_wit_SendReports_length :
    let s := up ready
    s.now.chanErr = false ∧ s.enable = true ∧ s.snd.st = .idle ∧ s.regs.txLen = 0x00#8 := by decide

theorem test_wit_Abort_nothing : (inState .delivered ready).snd.st = .delivered ∧ (up ready).snd.st = .idle := by
  decide
theorem test_wit_Abort_pending :
    let s := streaming ready
    s.snd.st = .sending ∧ s.snd.started = true ∧ s.eng.busy = true ∧ s.eng.kind = .data := by decide
theorem test_wit_Abort_fails :
    ((preparing ready).snd.st = .sending ∧ (preparing ready).snd.started = false) ∧
    (inState .awaitingAck ready).snd.st = .awaitingAck ∧ (inState .backingOff ready).snd.st = .backingOff := by
  decide

/-- A held frame, acknowledged or not. -/
def holding (acked : Bool) (c : Byte) (a : AckSlot) : State :=
  let s := up ready
  { s with
    regs := { s.regs with ctrl := c, rxValid := true, rxAcked := acked, rxHdr := helloHdr }
    ack := a }

theorem test_wit_Release : (holding false 1 ⟨false, 0, 0, 0⟩).regs.rxValid = true ∧ (up ready).regs.rxValid = false := by
  decide
theorem test_wit_Accept_posts :
    let s := holding false 1 ⟨false, 0, 0, 0⟩
    s.regs.rxValid = true ∧ s.regs.rxAcked = false ∧ s.enable = true ∧ s.ack.pend = false := by decide
theorem test_wit_Accept_acked :
    let s := holding true 3 ⟨false, 0, 0, 0⟩
    s.regs.rxValid = true ∧ s.regs.rxAcked = true := by decide
theorem test_wit_Accept_none : (up ready).regs.rxValid = false := by decide
theorem test_wit_Accept_disabled :
    let s := holding false 0 ⟨false, 0, 0, 0⟩
    s.regs.rxValid = true ∧ s.regs.rxAcked = false ∧ s.enable = false := by decide
theorem test_wit_Accept_busy :
    let s := holding false 1 ⟨true, 0, 0, 0⟩
    s.regs.rxValid = true ∧ s.regs.rxAcked = false ∧ s.enable = true ∧ s.ack.pend = true := by decide

theorem test_wit_frames_while_enabled : (up ready).enable = true := by decide
theorem test_wit_DisabledBlockIgnoresFrames : State.reset.enable = false := by decide

theorem test_wit_DataFrameDropped_dest :
    (up ready).enable = true ∧ (bareHdr 4).dest ≠ (up ready).regs.nodeAddr := by decide
theorem test_wit_DataFrameDropped_oversize :
    (up ready).enable = true ∧ (bareHdr 3).dest = (up ready).regs.nodeAddr ∧
      255 < (List.replicate 256 0x00#8).length := by
  simp only [List.length_replicate]
  decide
/-- V-RX-9. -/
theorem test_wit_DataFrameDropped_length :
    let s : State := { up ready with regs := { (up ready).regs with ctrl := 0x07#8 } }
    s.enable = true ∧ (bareHdr 3).dest = s.regs.nodeAddr ∧ (List.replicate 255 0x00#8).length ≤ 255 ∧
      s.strictLen = true ∧ (bareHdr 3).len.toNat ≠ (List.replicate 255 0x00#8).length := by
  simp only [List.length_replicate]
  decide
theorem test_wit_DataFrameDropped_held :
    let s := holding false 3 ⟨false, 0, 0, 0⟩
    s.enable = true ∧ helloHdr.dest = s.regs.nodeAddr ∧ helloPay.length ≤ 255 ∧
      (s.strictLen = true → helloHdr.len.toNat = helloPay.length) ∧ s.regs.rxValid = true := by decide
theorem test_wit_DataFrameDropped_slot :
    let s : State := { up ready with ack := ⟨true, 0, 0, 0⟩ }
    s.enable = true ∧ helloHdr.dest = s.regs.nodeAddr ∧ helloPay.length ≤ 255 ∧
      (s.strictLen = true → helloHdr.len.toNat = helloPay.length) ∧ s.regs.rxValid = false ∧
      s.autoAck = true ∧ s.ack.pend = true := by decide
/-- A held frame in a cycle that takes a byte and writes a register. -/
theorem test_wit_DataFrameDropped_held_step :
    let s : State := { holding false 3 ⟨false, 0, 0, 0⟩ with
      inputs := [{ pinsOfByte 0x00#8 true with busWe := true, busAddr := 0x005#10 }] }
    s.regs.rxValid = true ∧ s.now.rst = false ∧ s.hostWrite? ≠ some .rxRelease ∧
      s.hostWrite? ≠ some .rxAccept ∧ s.hostWrite? ≠ some .softReset ∧
      (nextState? (step s)).isSome = true := by decide
/-- An empty payload, and one of 255 bytes (V-RX-7, V-RX-11). -/
theorem test_wit_DataFrameIsDelivered :
    let s := up ready
    s.enable = true ∧ (bareHdr 3).dest = s.regs.nodeAddr ∧ ([] : List Byte).length ≤ 255 ∧
      (List.replicate 255 0x00#8).length ≤ 255 ∧ s.strictLen = false ∧ s.regs.rxValid = false ∧
      (s.autoAck = true → s.ack.pend = false) := by
  simp only [List.length_replicate]
  decide

theorem test_wit_AckFrameIsLoadedWhenGranted :
    let s : State := { up ready with ack := ⟨true, 0, 0, 1⟩ }
    (s.eng.busy = false ∧ s.enable = true ∧ s.now.chanErr = false ∧ s.ack.pend = true) ∧
      (up ready).ack.pend = false := by decide
theorem test_wit_DataFrameIsLoadedWhenGranted :
    let s := inState .sending ready
    s.eng.busy = false ∧ s.enable = true ∧ s.now.chanErr = false ∧ s.ack.pend = false ∧
      s.snd.st = .sending ∧ s.snd.frameReady = true ∧ s.snd.started = false ∧ s.snd.abortPend = false ∧
      (up ready).snd.st ≠ .sending := by decide

theorem test_wit_Handshake_waits :
    (up ready).eng.busy = false ∧ (streaming Pins.quiet).now.txTready = false := by decide
theorem test_wit_Handshake_byte :
    let s := streaming ready
    s.eng.busy = true ∧ s.now.txTready = true ∧ s.eng.idx.toNat ≠ s.eng.plen.toNat + 5 := by decide
theorem test_wit_Handshake_last_data :
    let s := atLast (streaming ready)
    s.eng.busy = true ∧ s.now.txTready = true ∧ s.eng.idx.toNat = s.eng.plen.toNat + 5 ∧ s.eng.kind = .data := by
  decide
theorem test_wit_Handshake_last_ack :
    let s := atLast (acking ready)
    s.eng.busy = true ∧ s.now.txTready = true ∧ s.eng.idx.toNat = s.eng.plen.toNat + 5 ∧ s.eng.kind = .ack := by
  decide

theorem test_wit_TransmitPhaseRunsTheGrantedFrame :
    let s : State := { up ready with ack := ⟨true, 0, 0, 1⟩ }
    ((handshake s).eng.busy = false ∧ (handshake s).enable = true ∧ (handshake s).now.chanErr = false ∧
      (handshake s).ack.pend = true) ∧
    (let u := handshake (inState .sending ready)
     u.eng.busy = false ∧ u.enable = true ∧ u.now.chanErr = false ∧ u.ack.pend = false ∧ u.snd.st = .sending ∧
      u.snd.frameReady = true ∧ u.snd.started = false ∧ u.snd.abortPend = false) ∧
    (handshake (streaming ready)).eng.busy = true := by decide

theorem test_wit_PortShowsTheEngineFrameByteByByte :
    ∀ s ∈ [streaming ready, atLast (streaming ready), acking ready, atLast (acking ready)],
      s.eng.busy = true ∧ (s.eng.kind = .ack → s.eng.plen = 0x03#8) ∧ s.eng.idx.toNat ≤ s.eng.plen.toNat + 5 := by
  decide

theorem test_wit_ChecksumPassSumsThePayload :
    let s := preparing ready
    s.snd.st = .sending ∧ s.snd.frameReady = false ∧ s.snd.prepIdx = 0 ∧ 1 ≤ s.snd.hdrL.len.toNat ∧
      s.snd.csum = s.sendChecksum 0 := by decide

theorem test_wit_AwaitingAck_match :
    let s : State := { inState .awaitingAck tick with cyc := { CycleLocals.none with ackMatch := true } }
    s.snd.st = .awaitingAck ∧ s.cyc.ackMatch = true := by decide
theorem test_wit_AwaitingAck_no_tick :
    let s := inState .awaitingAck ready
    s.snd.st = .awaitingAck ∧ s.cyc.ackMatch = false ∧ s.now.tick = false := by decide
theorem test_wit_AwaitingAck_counts :
    let s : State := { lastTick tick with snd := { (lastTick tick).snd with elapsed := 48 } }
    s.snd.st = .awaitingAck ∧ s.cyc.ackMatch = false ∧ s.now.tick = true ∧
      s.snd.elapsed.toNat + 1 < s.toEff := by decide

/-- A prepared frame in Sending, with tx_done. -/
def doneState (d : Option EngKind) (abort : Bool) : State :=
  let s := inState .sending ready
  { s with cyc := { CycleLocals.none with txDone := d }, snd := { s.snd with abortPend := abort } }

theorem test_wit_SenderPhase_sending :
    ((doneState none false).snd.frameReady = true ∧ (doneState none false).cyc.txDone ≠ some .data) ∧
    ((doneState (some .data) false).cyc.txDone = some .data ∧ (doneState (some .data) false).snd.abortPend = false) ∧
    ((doneState (some .data) true).snd.st = .sending ∧ (doneState (some .data) true).snd.frameReady = true ∧
      (doneState (some .data) true).cyc.txDone = some .data ∧ (doneState (some .data) true).snd.abortPend = true) := by
  decide
theorem test_wit_SenderPhase_backingOff :
    let s := inState .backingOff tick
    let u : State := { s with snd := { s.snd with remaining := 1 } }
    (s.snd.st = .backingOff ∧ s.snd.remaining = 0) ∧
    (u.snd.st = .backingOff ∧ u.snd.remaining ≠ 0 ∧ u.now.tick = true) ∧
    ({ u with inputs := [ready] } : State).now.tick = false := by decide
theorem test_wit_SenderPhase_others :
    (inState .delivered ready).snd.st = .delivered ∧ (up ready).snd.st = .idle := by decide

/-- The first timeout: bound 10, so the draw 9 is the last legal one (V-SND-8). -/
theorem test_wit_TimeoutDrawsInsideTheBound :
    let s := lastTick { tick with draw := 9 }
    s.snd.st = .awaitingAck ∧ s.cyc.ackMatch = false ∧ s.now.tick = true ∧ s.toEff ≤ s.snd.elapsed.toNat + 1 ∧
      1 ≤ s.snd.attempt.toNat ∧ s.now.draw < (2 ^ min s.snd.attempt.toNat 10 - 1) * max s.frameTime 1 := by decide

theorem test_wit_StreamingAssemblesTheFrame :
    State.reset.asm.n = 0 ∧ State.reset.asm.sum = 0 ∧ 5 < 6 ∧ 5 < hello.length ∧ 4 < 255 ∧ 6 + 4 < hello.length := by
  decide
theorem test_wit_AssembledFrameActsAsItsBytes :
    hello ≠ [] ∧ (up ready).asm.n = 0 ∧ (up ready).asm.sum = 0 ∧ hello.length ≤ 261 := by decide

theorem test_wit_DisabledIntakeDiscards :
    let s (p : Pins) : State := { State.reset with inputs := [p] }
    let u : State := { s ready with asm := { State.reset.asm with n := 1 } }
    (s ready).enable = false ∧
    ((s (pinsOfByte 0 true)).now.rxTvalid = true ∧ (s (pinsOfByte 0 true)).now.rxTlast = true) ∧
    ((s (pinsOfByte 0 false)).now.rxTvalid = true ∧ (s (pinsOfByte 0 false)).now.rxTlast = false) ∧
    (u.now.rxTvalid = false ∧ u.asm.n ≠ 0) ∧ ((s ready).now.rxTvalid = false ∧ (s ready).asm.n = 0) := by decide

/-- The matching ack's last byte arrives. -/
def matching : State :=
  { inState .awaitingAck (pinsOfByte 0x4B#8 true) with
    asm := ([0x00#8, 0x03#8, 0x00#8, 0x01#8, 0x03#8, 0xD6#8, 0x41#8, 0x43#8] : List Byte).foldl Assembler.take
      State.reset.asm }

theorem test_wit_ReceivePhaseKeepsTheSender :
    ((nextState? (receivePhase matching)).map (·.cyc.ackMatch)) = some true ∧ matching.cyc.ackMatch = false := by
  decide

theorem test_wit_PresentedFrameIsReceived :
    let s : State := { up ready with inputs := pinsOfFrame hello ++ [ready] }
    hello ≠ [] ∧ s.inputs = pinsOfFrame hello ++ [ready] ∧ s.cyc = CycleLocals.none ∧ s.enable = true ∧
      s.asm.n = 0 ∧ s.asm.sum = 0 ∧ s.asm.discard = false ∧ s.snd.st = .idle ∧ s.eng.busy = false ∧
      s.ack.pend = false ∧ s.regs.rxValid = false ∧
      (nextState? (exec (decodeFrame hello) s)).map (fun u => (u.regs.rxValid, u.regs.rxCount.toNat)) =
        some (true, 5) := by decide

theorem test_wit_StepRunsTheDecodedBusWord :
    let s := up (wr 0x003#10 0x01#8)
    (s.now.rst = false ∧ s.now.busWe = true) ∧ ((up ready).now.rst = false ∧ (up ready).now.busWe = false) := by
  decide

theorem test_wit_ReceivePhaseRunsTheCompletedFrame :
    let s (l : Bool) := up (pinsOfByte 0x00#8 l)
    (s true).enable = true ∧ (s true).now.rxTvalid = true ∧ (s true).asm.discard = false ∧
      (s true).now.rxTlast = true ∧ (s false).now.rxTlast = false := by decide
theorem test_wit_ReceivePhase_discards :
    let s (l : Bool) : State :=
      { up (pinsOfByte 0x00#8 l) with asm := { State.reset.asm with discard := true } }
    (s true).enable = true ∧ (s true).now.rxTvalid = true ∧ (s true).asm.discard = true ∧
      (s true).now.rxTlast = true ∧ (s false).now.rxTlast = false ∧ (up ready).now.rxTvalid = false := by decide

theorem test_wit_a_step_answers :
    ∀ s ∈ [State.reset.withFetchWord 24 0x40203, streaming ready, matching, preparing ready],
      (nextState? (step s)).isSome = true := by decide

theorem test_wit_ResetCycle : (streaming { ready with rst := true }).now.rst = true := by decide

theorem test_wit_SoftResetCycleEqualsReset :
    let p := wr 0x003#10 0x0F#8
    (up p).inputs = p :: [] ∧ p.rst = false ∧ p.busWe = true ∧ p.busAddr = 0x003#10 ∧ p.busWdata = 0x0F#8 := by
  decide

theorem test_wit_StatusIsFinalisedFromTheMasks :
    let s := up (wr 0x004#10 0xFF#8)
    s.now.rst = false ∧ s.hostWrite? ≠ some .softReset ∧ (nextState? (step s)).isSome = true := by decide

theorem test_wit_CounterWriteOverridesTheIncrement :
    ∀ a ∈ [0x020#10, 0x028#10],
      let s := up (wr a 0xFF#8)
      s.now.rst = false ∧ s.now.busWe = true ∧ 0x020 ≤ s.now.busAddr.toNat ∧ s.now.busAddr.toNat ≤ 0x028 ∧
        (nextState? (step s)).isSome = true := by decide

theorem test_wit_TransportPhase :
    let p : Pins := { ready with chanErr := true }
    (up ready).now.chanErr = false ∧ ((up p).now.chanErr = true ∧ (up p).snd.st.active = false) ∧
      ((streaming p).now.chanErr = true ∧ (streaming p).snd.st.active = true) := by decide
theorem test_wit_TransportErrorEndsTheSend :
    let s := inState .awaitingAck { ready with chanErr := true }
    s.now.rst = false ∧ s.now.chanErr = true ∧ s.hostWrite? ≠ some .softReset ∧ s.snd.st.active = true ∧
      (nextState? (step s)).isSome = true := by decide

theorem test_wit_SequenceNumberLaw :
    (nextState? (step matching)).map (fun t => (matching.regs.seq, t.regs.seq, t.snd.st)) =
      some (0#8, 1#8, .delivered) := by decide

/-- A send in progress has the transmit invariant, and so the session invariant. -/
theorem test_wit_invariants_in_a_send : TransmitInv (preparing ready) := by
  refine ⟨⟨⟨?_, ?_, ?_, ?_, ?_, ?_, ?_⟩, ?_, ?_, ?_, ?_, ?_⟩, ?_, ?_, ?_, ?_, ?_⟩
  all_goals decide

/-- So has a data frame on the port. -/
theorem test_wit_invariants_on_the_port : TransmitInv (streaming ready) ∧ (streaming ready).eng.busy = true ∧
    (nextState? (step (streaming ready))).isSome = true := by
  refine ⟨⟨⟨⟨?_, ?_, ?_, ?_, ?_, ?_, ?_⟩, ?_, ?_, ?_, ?_, ?_⟩, ?_, ?_, ?_, ?_, ?_⟩, ?_, ?_⟩
  all_goals decide

/-- And an ack on the port. -/
theorem test_wit_invariants_of_an_ack : TransmitInv (acking ready) ∧ (acking ready).eng.kind = .ack := by
  refine ⟨⟨⟨⟨?_, ?_, ?_, ?_, ?_, ?_, ?_⟩, ?_, ?_, ?_, ?_, ?_⟩, ?_, ?_, ?_, ?_, ?_⟩, ?_⟩
  all_goals decide

/-- A step that goes on with the same send, from one byte of its frame to the next. -/
theorem test_wit_send_continues :
    ∃ t, TransmitInv (streaming ready) ∧ SendContinues (streaming ready) t ∧
      Relation.ReflTransGen SendContinues (streaming ready) t ∧ (streaming ready).dataOnPort = true ∧
      t.dataOnPort = true ∧ t.eng.idx = 1 := by
  have h : SendContinues (streaming ready) ((nextState? (step (streaming ready))).getD State.reset) :=
    ⟨by decide, by decide, by decide, rfl⟩
  exact ⟨_, test_wit_invariants_on_the_port.1, h, .single h, by decide, by decide, by decide⟩

theorem test_wit_storage_codes_ranges :
    StorageInv (streaming ready) ∧ CodesInv (streaming ready) ∧ RangeInv (streaming ready) ∧
      (nextState? (step (streaming ready))).isSome = true := by
  refine ⟨⟨?_, ?_, ?_⟩, ⟨?_, ?_, ?_, ?_⟩, ⟨?_, ?_, ?_, ?_⟩, ?_⟩
  all_goals decide

end Sys2Proof.Machine.Tests
end

section
/-! ## The phases of one cycle (R403): what each can do, said once

Each phase gets one lemma that says everything it can do; `KeptByPhases` packages the chain of phases, so that
an invariant is proved phase by phase and never by unfolding `step`. -/

namespace Sys2Proof

/-- The rows a host write can decode to (R651): every bus row but the read. -/
def Instr.isHostWrite (i : Instr) : Bool :=
  match i with
  | .rd _ | .rxTrunc _ | .rxBadsum _ _ | .rxAck _ | .rxData _ _ | .txDataFrame | .txAckFrame => false
  | _ => true

theorem decodeCmd_isHostWrite (c : Byte) : (decodeCmd c).isHostWrite = true := by
  unfold decodeCmd
  split <;> rfl

theorem decodeWrite_isHostWrite (a : Addr) (v : Byte) : (decodeWrite a v).isHostWrite = true := by
  unfold decodeWrite
  split
  case h_2 => exact decodeCmd_isHostWrite v
  case h_22 => split <;> rfl
  all_goals rfl

theorem decodeBus_write (a : Addr) (v : Byte) : decodeBus (busWord true a v) = decodeWrite a v := by
  simp [decodeBus]

end Sys2Proof

namespace Sys2Proof.Machine

theorem hostWrite?_isHostWrite {s : State} {i : Instr} (h : s.hostWrite? = some i) :
    i.isHostWrite = true := by
  cases hwe : s.now.busWe with
  | false => simp [State.hostWrite?, hwe] at h
  | true =>
    obtain rfl : s.busInstr = i := by simpa [State.hostWrite?, hwe] using h
    rw [State.busInstr, hwe, decodeBus_write]
    exact decodeWrite_isHostWrite _ _

/-! ### The start of a cycle -/

/-- The state P2 begins on: cycle-local values cleared, the ports and the read port shown (R402, R411). -/
def startCycle (s : State) : State :=
  { beginCycle s with out := { s.portSample with busRdata := (beginCycle s).read s.now.busAddr } }

/-- The read at the start of the cycle gives `startCycle`. -/
theorem exec_rd_beginCycle (s : State) : exec (.rd s.now.busAddr) (beginCycle s) = .next (startCycle s) := rfl

@[simp] theorem startCycle_regs (s : State) : (startCycle s).regs = s.regs := rfl
@[simp] theorem startCycle_snd (s : State) : (startCycle s).snd = s.snd := rfl
@[simp] theorem startCycle_eng (s : State) : (startCycle s).eng = s.eng := rfl
@[simp] theorem startCycle_asm (s : State) : (startCycle s).asm = s.asm := rfl
@[simp] theorem startCycle_mem (s : State) : (startCycle s).mem = s.mem := rfl
@[simp] theorem startCycle_cyc (s : State) : (startCycle s).cyc = CycleLocals.none := rfl

/-! ### P2 -/

/-- What `chan_err` does whatever the sender does (R405): the event, the port idle, the ack slot empty. -/
def abandonPort (s : State) : State :=
  { s with
    eng := if s.eng.busy then { s.eng with busy := false, idx := 0 } else s.eng
    ack := { s.ack with pend := false }
    cyc := { s.cyc with setmask := s.cyc.setmask ||| 0x40#8 } }

/-- Everything P2 can do (R405, R514). -/
theorem transportPhase_cases (s : State) :
    (transportPhase s = s) ∨
    (transportPhase s = abandonPort s ∧ s.snd.st.active = false) ∨
    (transportPhase s = fail .transportUnavailable (abandonPort s) ∧ s.snd.st.active = true) := by
  cases h : s.now.chanErr with
  | false => exact .inl (transportPhase_quiet s h)
  | true =>
    have heq : transportPhase s = transportAbort (abandonPort s) := transportPhase_error s h
    rw [heq]
    exact .inr (transportAbort_cases (abandonPort s))

@[simp] theorem transportPhase_asm (s : State) : (transportPhase s).asm = s.asm := by
  rcases transportPhase_cases s with h | ⟨h, -⟩ | ⟨h, -⟩ <;> rw [h] <;> rfl
@[simp] theorem transportPhase_mem (s : State) : (transportPhase s).mem = s.mem := by
  rcases transportPhase_cases s with h | ⟨h, -⟩ | ⟨h, -⟩ <;> rw [h] <;> rfl
@[simp] theorem transportPhase_seq (s : State) : (transportPhase s).regs.seq = s.regs.seq := by
  rcases transportPhase_cases s with h | ⟨h, -⟩ | ⟨h, -⟩ <;> rw [h] <;> rfl
@[simp] theorem transportPhase_txDone (s : State) : (transportPhase s).cyc.txDone = s.cyc.txDone := by
  rcases transportPhase_cases s with h | ⟨h, -⟩ | ⟨h, -⟩ <;> rw [h] <;> rfl

/-- P2 leaves the sender's state alone or makes it Idle (R514). -/
theorem transportPhase_st (s : State) :
    (transportPhase s).snd.st = s.snd.st ∨ (transportPhase s).snd.st = .idle := by
  rcases transportPhase_cases s with h | ⟨h, -⟩ | ⟨h, -⟩ <;> rw [h]
  · exact .inl rfl
  · exact .inl rfl
  · exact .inr rfl

/-! ### P3 -/

/-- What the intake and the end of a frame can make of the assembler (R550 to R552). -/
inductive AsmAfter (a : Assembler) : Assembler → Prop
  | kept : AsmAfter a a
  | discardEnds : AsmAfter a { a with discard := false }
  | taken (b : Byte) : a.discard = false → AsmAfter a (a.take b)
  | cleared (d : Bool) : AsmAfter a { a.clear with discard := d }

/-- What the class of a completed frame can make of the state (R553 to R556). -/
inductive FrameActed (s : State) : State → Prop
  | none : FrameActed s s
  | dropped (c : DropCause) : FrameActed s (drop c (noMatch s))
  | acked (h : Header) : FrameActed s (receiveAck h s)
  | delivered (h : Header) (p : List Byte) : p.length ≤ 255 → FrameActed s (deliver h p (noMatch s))

theorem intake_asm (s : State) : AsmAfter s.asm (intake s).1.asm := by
  cases he : s.enable with
  | false =>
    simp only [intake, intakeDisabled, he, Bool.false_eq_true, if_false]
    exact .cleared _
  | true =>
    cases hv : s.now.rxTvalid with
    | false => simpa [intake, intakeEnabled, he, hv] using AsmAfter.kept
    | true =>
      cases hd : s.asm.discard with
      | false => simpa [intake, intakeEnabled, he, hv, hd] using AsmAfter.taken s.now.rxTdata hd
      | true =>
        cases hl : s.now.rxTlast with
        | false => simpa [intake, intakeEnabled, he, hv, hd, hl] using AsmAfter.kept
        | true => simpa [intake, intakeEnabled, he, hv, hd, hl] using AsmAfter.discardEnds

theorem receiveData_acted (h : Header) (p : List Byte) (s : State) :
    FrameActed s (receiveData h p (noMatch s)) := by
  rcases receiveData_cases h p (noMatch s) with ⟨c, heq, -⟩ | ⟨heq, hnone⟩ <;> rw [heq]
  · exact .dropped c
  · obtain ⟨-, hlen, -⟩ := (dataDrop_eq_none_iff h p (noMatch s)).1 hnone
    exact .delivered h p hlen

/-- The row of a completed frame answers, in one of the ways of its class (R553). -/
theorem exec_completedFrame (s : State) (he : s.enable = true) :
    ∃ u, exec s.completedFrame s = .next u ∧ FrameActed s u := by
  unfold State.completedFrame
  simp only
  split_ifs
  · exact ⟨_, if_pos he, .dropped _⟩
  · exact ⟨_, if_pos he, .dropped _⟩
  · exact ⟨_, if_pos he, .acked _⟩
  · exact ⟨_, if_pos he, receiveData_acted _ _ s⟩

/-- Everything P3 can do: the intake's change of the assembler, a completed frame's class, and the
assembler's restart. -/
theorem receivePhase_cases (s : State) :
    ∃ a u b, receivePhase s = .next { u with asm := b } ∧ AsmAfter s.asm a ∧
      FrameActed { s with asm := a } u ∧ AsmAfter u.asm b := by
  have hasm := intake_asm s
  have hkeeps := intake_keeps s
  cases hin : intake s with
  | mk s1 i? =>
    rw [hin] at hasm hkeeps
    cases i? with
    | none => exact ⟨s1.asm, s1, s1.asm, by simp [receivePhase, hin], hasm, hkeeps ▸ .none, .kept⟩
    | some i =>
      obtain ⟨he, -, -, -, hs1, rfl⟩ := intake_completes hin
      obtain ⟨u, hexec, hacted⟩ := exec_completedFrame s1 (by rw [hs1]; exact he)
      exact ⟨s1.asm, u, u.asm.clear, by simp [receivePhase, hin, hexec, closeFrame], hasm,
        hkeeps ▸ hacted, .cleared u.asm.discard⟩

/-- What P3 leaves alone: the sender, the engine, `tx_done`, and the registers CTRL, SEQ and NODE_ADDR (R562). -/
structure ReceiverOnly (s t : State) : Prop where
  snd : t.snd = s.snd
  eng : t.eng = s.eng
  txDone : t.cyc.txDone = s.cyc.txDone
  ctrl : t.regs.ctrl = s.regs.ctrl
  seq : t.regs.seq = s.regs.seq
  nodeAddr : t.regs.nodeAddr = s.regs.nodeAddr

theorem FrameActed.receiverOnly {s u : State} (h : FrameActed s u) : ReceiverOnly s u := by
  cases h with
  | none => constructor <;> rfl
  | dropped c => constructor <;> rfl
  | acked h => constructor <;> rfl
  | delivered h p _ => constructor <;> simp

theorem FrameActed.asm_eq {s u : State} (h : FrameActed s u) : u.asm = s.asm := by
  cases h <;> simp

theorem receivePhase_receiverOnly {s t : State} (h : receivePhase s = .next t) : ReceiverOnly s t := by
  obtain ⟨a, u, b, heq, -, hacted, -⟩ := receivePhase_cases s
  obtain rfl : { u with asm := b } = t := by simpa [heq] using h
  obtain ⟨h1, h2, h3, h4, h5, h6⟩ := hacted.receiverOnly
  exact ⟨h1, h2, h3, h4, h5, h6⟩

/-! ### P4 -/

/-- P4's second step: the engine loads what the arbiter grants (R603 to R605). -/
def loadGranted (s : State) : State :=
  match s.arbiter with
  | none => s
  | some .ack => loadAck s
  | some .data => loadData s

theorem txPhase_next (s : State) : txPhase s = .next (loadGranted (handshake s)) := txPhase_eq s

theorem loadGranted_cases (s : State) :
    loadGranted s = s ∨ (loadGranted s = loadAck s ∧ s.arbiter = some .ack) ∨
      (loadGranted s = loadData s ∧ s.arbiter = some .data) := by
  unfold loadGranted
  split <;> simp_all

/-- What P4 can change: the engine, the ack slot, `started`, the counters and the cycle's events. -/
theorem transmit_frame (s : State) : ∃ e a b k c, loadGranted (handshake s) =
    { s with eng := e, ack := a, snd := { s.snd with started := b }, cnt := k, cyc := c } := by
  have hload : ∀ u : State, ∃ e a b, loadGranted u =
      { u with eng := e, ack := a, snd := { u.snd with started := b } } := by
    intro u
    rcases loadGranted_cases u with h | ⟨h, -⟩ | ⟨h, -⟩ <;> rw [h] <;> exact ⟨_, _, _, rfl⟩
  have hshake : ∃ e k c, handshake s = { s with eng := e, cnt := k, cyc := c } := by
    rcases handshake_cases s with ⟨h, -⟩ | ⟨h, -⟩ | ⟨h, -⟩ <;> rw [h]
    · exact ⟨_, _, _, rfl⟩
    · exact ⟨_, _, _, rfl⟩
    · cases hk : s.eng.kind <;> simp only [finishFrame, hk] <;> exact ⟨_, _, _, rfl⟩
  obtain ⟨e, k, c, h1⟩ := hshake
  obtain ⟨e', a, b, h2⟩ := hload (handshake s)
  exact ⟨e', a, b, k, c, by rw [h2, h1]⟩

/-! ### P5 -/

/-- What P5 can change: the sender, SEQ, TX_FAIL_CODE, CNT_TIMEOUT and the cycle's events. -/
theorem senderPhase_frame (s : State) : ∃ q f k d c, senderPhase s =
    { s with regs := { s.regs with seq := q, txFailCode := f }, cnt := k, snd := d, cyc := c } := by
  rcases senderPhase_cases s with h | ⟨h, -⟩ | ⟨h, -⟩ | ⟨h, -⟩ | ⟨h, -⟩ | ⟨e, h, -⟩ | ⟨e, h, -⟩ | ⟨h, -⟩ |
    ⟨h, -⟩ | ⟨h, -⟩ <;> rw [h] <;> exact ⟨_, _, _, _, _, rfl⟩

/-- SEQ advances only with a match, from AwaitingAck to Delivered (R504, R517). -/
theorem senderPhase_seq (s : State) :
    (senderPhase s).regs.seq = s.regs.seq ∨
      ((senderPhase s).regs.seq = s.regs.seq + 1#8 ∧ s.snd.st = .awaitingAck ∧
        (senderPhase s).snd.st = .delivered) := by
  rcases senderPhase_cases s with h | ⟨h, -⟩ | ⟨h, -⟩ | ⟨h, -⟩ | ⟨h, hst, -⟩ | ⟨e, h, -⟩ | ⟨e, h, -⟩ |
    ⟨h, -⟩ | ⟨h, -⟩ | ⟨h, -⟩ <;> rw [h]
  case inr.inr.inr.inr.inl => exact .inr ⟨rfl, hst, rfl⟩
  all_goals exact .inl rfl

/-- TX_FAIL_CODE is kept or holds a listed code (R702). -/
theorem senderPhase_failCode (s : State) :
    (senderPhase s).regs.txFailCode = s.regs.txFailCode ∨
      ∃ c : FailCause, (senderPhase s).regs.txFailCode = c.code := by
  rcases senderPhase_cases s with h | ⟨h, -⟩ | ⟨h, -⟩ | ⟨h, -⟩ | ⟨h, -⟩ | ⟨e, h, -⟩ | ⟨e, h, -⟩ |
    ⟨h, -⟩ | ⟨h, -⟩ | ⟨h, -⟩ <;> rw [h]
  case inr.inr.inl => exact .inr ⟨.aborted, rfl⟩
  all_goals exact .inl rfl

end Sys2Proof.Machine
end

section
/-! ## The host's write, and one step as a chain of phases -/

namespace Sys2Proof.Machine

/-! ### P6 -/

/-- A host write that leaves the sender, the engine, the assembler, the storages, CTRL and SEQ alone: it holds
NODE_ADDR while ENABLE = 1 (R653), it never makes a frame held or acked, and of the code registers it writes
only listed codes (R702, R704). -/
structure PlainWrite (s t : State) : Prop where
  frame : t = { s with regs := t.regs, cnt := t.cnt, ack := t.ack, cyc := t.cyc }
  ctrl : t.regs.ctrl = s.regs.ctrl
  seq : t.regs.seq = s.regs.seq
  nodeAddr : s.enable = true → t.regs.nodeAddr = s.regs.nodeAddr
  held : t.regs.rxAcked = true → s.regs.rxAcked = true ∧ t.regs.rxValid = s.regs.rxValid
  dropCode : t.regs.rxDropCode = s.regs.rxDropCode
  failCode : t.regs.txFailCode = s.regs.txFailCode ∨ ∃ c : FailCause, t.regs.txFailCode = c.code
  cmdErrCode : t.regs.cmdErrCode = s.regs.cmdErrCode ∨ ∃ c : CmdCause, t.regs.cmdErrCode = c.code

/-- Everything a host write can do (R651): reset, the CTRL store with or without a disable, a TX_BUF byte, the
accepted SEND, ABORT, or a plain write. -/
inductive HostWrote : Instr → State → State → Prop
  | reset (s : State) : HostWrote .softReset s (hwReset s)
  | stored (v : Byte) (s : State) : (s.enable = true → v.getLsbD 0 = true) →
      HostWrote (.wrCtrl v) s { s with regs := { s.regs with ctrl := v &&& 0x07#8 } }
  | disabled (v : Byte) (s : State) : s.enable = true → v.getLsbD 0 = false →
      HostWrote (.wrCtrl v) s (disable { s with regs := { s.regs with ctrl := v &&& 0x07#8 } })
  | buffer (idx v : Byte) (s : State) : s.snd.st = .idle → idx ≠ 0xFF#8 →
      HostWrote (.wrTxBuf idx v) s (setTxBuf s idx.toNat v)
  | started (s : State) : s.enable = true → s.snd.st = .idle → HostWrote .send s (startSend s)
  | aborted (s : State) : HostWrote .abort s (abortSend s)
  | plain (i : Instr) (s t : State) : PlainWrite s t → HostWrote i s t

namespace PlainWrite

theorem refl (s : State) : PlainWrite s s := by
  constructor <;> simp

theorem cmdErr (c : CmdCause) (s : State) : PlainWrite s (cmdErr c s) := by
  constructor
  case cmdErrCode => exact .inr ⟨c, rfl⟩
  all_goals simp [Machine.cmdErr, raise]

theorem txFail (c : FailCause) (s : State) : PlainWrite s (txFail c s) := by
  constructor
  case failCode => exact .inr ⟨c, rfl⟩
  all_goals simp [Machine.txFail, raise]

theorem clearEvents (v : Byte) (s : State) : PlainWrite s (clearEvents v s) := by
  constructor <;> simp [Machine.clearEvents]

theorem counters (k : Counters) (s : State) : PlainWrite s { s with cnt := k } := by
  constructor <;> simp

theorem releaseFrame (s : State) : PlainWrite s (releaseFrame s) := by
  constructor <;> simp [Machine.releaseFrame]

theorem releaseFrame_postAck (m q d : Byte) (s : State) :
    PlainWrite s (Machine.releaseFrame (postAck m q d s)) := by
  constructor <;> simp [Machine.releaseFrame, postAck]

end PlainWrite

/-- A locked write of a plain register (R654). -/
theorem txLocked_plain {s t : State} {f : State → State} (hf : PlainWrite s (f s))
    (h : txLocked s f = .next t) : PlainWrite s t := by
  rcases txLocked_cases s f with ⟨heq, -⟩ | ⟨heq, -⟩ <;> rw [heq] at h <;> cases h
  · exact hf
  · exact .cmdErr _ s

theorem execWrCtrl_wrote {v : Byte} {s t : State} (h : execWrCtrl v s = .next t) :
    HostWrote (.wrCtrl v) s t := by
  by_cases hc : s.enable = true ∧ v.getLsbD 0 = false
  · obtain ⟨he, hv⟩ := hc
    simp only [execWrCtrl, he, hv, and_self, if_true] at h
    cases h
    exact .disabled v s he hv
  · simp only [execWrCtrl, if_neg hc] at h
    cases h
    exact .stored v s (by simpa using hc)

theorem execWrNodeAddr_plain {v : Byte} {s t : State} (h : execWrNodeAddr v s = .next t) :
    PlainWrite s t := by
  cases he : s.enable <;> simp only [execWrNodeAddr, he] at h <;> cases h
  · constructor <;> simp [he]
  · exact .cmdErr _ s

theorem execWrTxBuf_wrote {idx v : Byte} {s t : State} (h : execWrTxBuf idx v s = .next t) :
    HostWrote (.wrTxBuf idx v) s t := by
  by_cases hidx : idx = 0xFF#8
  · rw [execWrTxBuf, if_pos hidx] at h
    cases h
    exact .plain _ _ _ (.refl s)
  · rw [execWrTxBuf, if_neg hidx] at h
    rcases txLocked_cases s fun s => setTxBuf s idx.toNat v with ⟨heq, hst⟩ | ⟨heq, -⟩ <;>
      rw [heq] at h <;> cases h
    · exact .buffer idx v s hst hidx
    · exact .plain _ _ _ (.cmdErr _ s)

theorem execSend_wrote {s t : State} (h : execSend s = .next t) : HostWrote .send s t := by
  unfold execSend at h
  split_ifs at h with herr hdis hbusy hlen <;> cases h
  · exact .plain _ _ _ (.txFail _ s)
  · exact .plain _ _ _ (.cmdErr _ s)
  · exact .plain _ _ _ (.cmdErr _ s)
  · exact .plain _ _ _ (.txFail _ s)
  · exact .started s (by simpa using hdis) (by simpa using hbusy)

theorem execRxRelease_plain {s t : State} (h : execRxRelease s = .next t) : PlainWrite s t := by
  unfold execRxRelease at h
  split_ifs at h <;> cases h
  · exact .cmdErr _ s
  · exact .releaseFrame s

theorem execRxAccept_plain {s t : State} (h : execRxAccept s = .next t) : PlainWrite s t := by
  unfold execRxAccept at h
  split_ifs at h <;> cases h
  · exact .cmdErr _ s
  · exact .releaseFrame s
  · exact .cmdErr _ s
  · exact .cmdErr _ s
  · exact .releaseFrame_postAck _ _ _ s

/-- Each row of a host write, in the words of `HostWrote`. -/
theorem exec_hostWrite {i : Instr} {s t : State} (hi : i.isHostWrite = true) (h : exec i s = .next t) :
    HostWrote i s t := by
  cases i with
  | rd _ | rxTrunc _ | rxBadsum _ _ | rxAck _ | rxData _ _ | txDataFrame | txAckFrame => cases hi
  | softReset => cases h; exact .reset s
  | wrCtrl v => exact execWrCtrl_wrote h
  | wrTxBuf idx v => exact execWrTxBuf_wrote h
  | send => exact execSend_wrote h
  | abort => cases h; exact .aborted s
  | wrStatus v => cases h; exact .plain _ _ _ (.clearEvents v s)
  | wrNodeAddr v => exact .plain _ _ _ (execWrNodeAddr_plain h)
  | rxRelease => exact .plain _ _ _ (execRxRelease_plain h)
  | rxAccept => exact .plain _ _ _ (execRxAccept_plain h)
  | cmdIllegal code => cases h; exact .plain _ _ _ (.cmdErr _ s)
  | nop | wrIgnored _ _ => cases h; exact .plain _ _ _ (.refl s)
  | wrTxMcs v | wrTxDest v | wrTxLen v =>
    simp only [exec, execWrTxMcs, execWrTxDest, execWrTxLen] at h
    refine .plain _ _ _ (txLocked_plain ?_ h)
    constructor <;> simp
  | wrIrqEn v | wrAckTimeoutLo v | wrAckTimeoutHi v | wrFrameTimeLo v | wrFrameTimeHi v =>
    cases h
    exact .plain _ _ _ (by constructor <;> simp)
  | wrCntTxData _ | wrCntTxAck _ | wrCntRxDeliv _ | wrCntRxCksum _ | wrCntRxTrunc _ | wrCntRxFilt _
  | wrCntRxOverrun _ | wrCntTimeout _ | wrCntRxAck _ =>
    cases h
    exact .plain _ _ _ (.counters _ s)

/-- Everything P6 can do, on the word the cycle began with: nothing in a read cycle, else the decoded write. -/
theorem hostPhase_cases {s0 s t : State} (h : runOpt s0.hostWrite? s = .next t) :
    t = s ∨ ∃ i, s0.hostWrite? = some i ∧ HostWrote i s t := by
  cases hw : s0.hostWrite? with
  | none =>
    rw [hw] at h
    cases h
    exact .inl rfl
  | some i =>
    rw [hw] at h
    exact .inr ⟨i, rfl, exec_hostWrite (hostWrite?_isHostWrite hw) h⟩

/-! ### The whole cycle -/

/-- The state P6 runs on: P4 and P5 after the receive phase. -/
def beforeWrite (s : State) : State := senderPhase (loadGranted (handshake s))

/-- A step is a reset cycle, or the chain P2, P3, P4 with P5, P6 between the ends of the cycle (R403). -/
theorem step_cases {s t : State} (h : step s = .next t) :
    (s.now.rst = true ∧ t = endCycle (hwReset (startCycle s))) ∨
    (∃ s3 s6, receivePhase (transportPhase (startCycle s)) = .next s3 ∧
      runOpt s.hostWrite? (beforeWrite s3) = .next s6 ∧ t = endCycle s6) := by
  cases hr : s.now.rst with
  | true =>
    simp only [step, hr, if_true, resetCycle, exec_rd_beginCycle, andThen_next] at h
    cases h
    exact .inl ⟨rfl, rfl⟩
  | false =>
    obtain ⟨s6, hafter, hend⟩ := (andThen_eq_next_iff _ _ t).1 (by simpa [step, hr] using h)
    obtain ⟨s5, hbefore, hhost⟩ := (andThen_eq_next_iff _ _ s6).1 hafter
    simp only [beforeHost, exec_rd_beginCycle, andThen_next] at hbefore
    obtain ⟨s3, hrecv, htx⟩ := (andThen_eq_next_iff _ _ s5).1 hbefore
    rw [txPhase_next, andThen_next] at htx
    cases htx
    cases hend
    exact .inr ⟨s3, s6, hrecv, hhost, rfl⟩

/-- A predicate every phase of a cycle keeps. P4 and P5 stand as one, since what P4 finishes P5 takes up in the
same cycle (R403). -/
structure KeptByPhases (P : State → Prop) : Prop where
  resets : ∀ s, P (hwReset s)
  starts : ∀ s, P s → P (startCycle s)
  transport : ∀ s, P s → P (transportPhase s)
  intake : ∀ s a, AsmAfter s.asm a → P s → P { s with asm := a }
  frame : ∀ s u, FrameActed s u → P s → P u
  transmit : ∀ s, s.cyc.txDone = none → P s → P (beforeWrite s)
  host : ∀ i s t, HostWrote i s t → P s → P t
  ends : ∀ s, P s → P (endCycle s)

/-- What every phase keeps, a step keeps. -/
theorem KeptByPhases.step {P : State → Prop} (hP : KeptByPhases P) {s t : State} (hs : P s)
    (h : step s = .next t) : P t := by
  rcases step_cases h with ⟨-, rfl⟩ | ⟨s3, s6, hrecv, hhost, rfl⟩
  · exact hP.ends _ (hP.resets _)
  · have h2 : P (transportPhase (startCycle s)) := hP.transport _ (hP.starts _ hs)
    have h3 : P s3 := by
      obtain ⟨a, u, b, heq, ha, hu, hb⟩ := receivePhase_cases (transportPhase (startCycle s))
      obtain rfl : { u with asm := b } = s3 := by simpa [heq] using hrecv
      exact hP.intake _ _ hb (hP.frame _ _ hu (hP.intake _ _ ha h2))
    have hdone : s3.cyc.txDone = none := by
      rw [(receivePhase_receiverOnly hrecv).txDone, transportPhase_txDone, startCycle_cyc]
      rfl
    have h5 : P (beforeWrite s3) := hP.transmit _ hdone h3
    rcases hostPhase_cases hhost with rfl | ⟨i, -, hi⟩
    · exact hP.ends _ h5
    · exact hP.ends _ (hP.host _ _ _ hi h5)

end Sys2Proof.Machine
end

section
/-! ## The session invariant (R145), phase by phase -/

namespace Sys2Proof.Machine

/-! ### Ways to have the session invariant -/

/-- What R145 says of a send in progress with no abort pending. -/
structure ActiveSend (s : State) : Prop where
  seq : s.snd.hdrL.seq = s.regs.seq
  src : s.snd.hdrL.src = s.regs.nodeAddr
  attempt : 1 ≤ s.snd.attempt.toNat
  abort : s.snd.abortPend = false
  enable : s.enable = true

/-- The receiver's part of R145: (d) and (e). -/
structure ReceiverInv (s : State) : Prop where
  held : s.regs.rxAcked = true → s.regs.rxValid = true
  empty : s.asm.discard = true → s.asm.n = 0

theorem SenderState.ne_of_inactive {a b : SenderState} (ha : a.active = false) (hb : b.active = true) :
    a ≠ b := by
  rintro rfl
  simp [ha] at hb

namespace SessionInv

theorem activeSend {s : State} (h : SessionInv s) (hst : s.snd.st.active = true)
    (hab : s.snd.abortPend = false) : ActiveSend s :=
  ⟨h.latchedSeq hst, h.latchedSrc hst hab, h.attemptPos hst, hab, h.activeEnabled hst hab⟩

theorem receiverInv {s : State} (h : SessionInv s) : ReceiverInv s := ⟨h.ackedHeld, h.discardEmpty⟩

/-- Outside Sending no abort is pending (R145(c)). -/
theorem noAbort {s : State} (h : SessionInv s) (hst : s.snd.st ≠ .sending) : s.snd.abortPend = false := by
  by_contra hab
  exact hst (h.abortStreams (by simpa using hab)).1

theorem port_eq_false {s : State} (h : SessionInv s) (hns : ¬(s.snd.st = .sending ∧ s.snd.started = true)) :
    s.dataOnPort = false := by
  simpa using fun hp => hns (h.streamsData.1 hp)

/-- A phase that leaves the sender and what R145 compares it with alone keeps the invariant. NODE_ADDR may
change while ENABLE = 0, and ENABLE may be set. -/
theorem of_same_send {s t : State} (h : SessionInv s) (hsnd : t.snd = s.snd)
    (hseq : t.regs.seq = s.regs.seq) (hnode : s.enable = true → t.regs.nodeAddr = s.regs.nodeAddr)
    (hen : s.enable = true → t.enable = true) (hport : t.dataOnPort = s.dataOnPort) (hr : ReceiverInv t) :
    SessionInv t where
  latchedSeq := by rw [hsnd, hseq]; exact h.latchedSeq
  latchedSrc := by
    rw [hsnd]
    intro hst hab
    rw [hnode (h.activeEnabled hst hab)]
    exact h.latchedSrc hst hab
  attemptPos := by rw [hsnd]; exact h.attemptPos
  idleClear := by rw [hsnd]; exact h.idleClear
  abortStreams := by rw [hsnd, hport]; exact h.abortStreams
  ackedHeld := hr.held
  discardEmpty := hr.empty
  activeEnabled := by rw [hsnd]; exact fun hst hab => hen (h.activeEnabled hst hab)
  streamsData := by rw [hsnd, hport]; exact h.streamsData
  startedReady := by rw [hsnd]; exact h.startedReady
  waitReady := by rw [hsnd]; exact h.waitReady
  backoffReady := by rw [hsnd]; exact h.backoffReady

/-- With no send active the invariant asks only for clear flags and no data frame on the port. -/
theorem of_inactive {s : State} (hst : s.snd.st.active = false) (hab : s.snd.abortPend = false)
    (hclear : s.snd.st = .idle → s.snd.started = false ∧ s.snd.frameReady = false)
    (hport : s.dataOnPort = false) (hr : ReceiverInv s) : SessionInv s where
  latchedSeq := by simp [hst]
  latchedSrc := by simp [hst]
  attemptPos := by simp [hst]
  idleClear hi := ⟨(hclear hi).1, hab, (hclear hi).2⟩
  abortStreams := by simp [hab]
  ackedHeld := hr.held
  discardEmpty := hr.empty
  activeEnabled := by simp [hst]
  streamsData := by
    have hns : s.snd.st ≠ .sending := SenderState.ne_of_inactive hst rfl
    simp [hport, hns]
  startedReady hs := absurd hs (SenderState.ne_of_inactive hst rfl)
  waitReady hs := absurd hs (SenderState.ne_of_inactive hst rfl)
  backoffReady hs := absurd hs (SenderState.ne_of_inactive hst rfl)

/-- GO_IDLE clears what R145(b) asks for (R500). -/
theorem of_goIdle {s : State} {d : Sender} (hsnd : s.snd = d.goIdle) (hport : s.dataOnPort = false)
    (hr : ReceiverInv s) : SessionInv s :=
  of_inactive (by rw [hsnd]; rfl) (by rw [hsnd]; rfl) (fun _ => by rw [hsnd]; exact ⟨rfl, rfl⟩) hport hr

end SessionInv

namespace ActiveSend

theorem specInv {s : State} (h : ActiveSend s) (hst : s.snd.st ≠ .idle) (hr : ReceiverInv s) : SpecInv s where
  latchedSeq _ := h.seq
  latchedSrc _ _ := h.src
  attemptPos _ := h.attempt
  idleClear hi := absurd hi hst
  abortStreams := by simp [h.abort]
  ackedHeld := hr.held
  discardEmpty := hr.empty

/-- A send in Sending: the port streams exactly the started attempt, whose checksum pass is over. -/
theorem sending {s : State} (h : ActiveSend s) (hst : s.snd.st = .sending)
    (hport : s.dataOnPort = s.snd.started) (hready : s.snd.started = true → s.snd.frameReady = true)
    (hr : ReceiverInv s) : SessionInv s where
  toSpecInv := h.specInv (by simp [hst]) hr
  activeEnabled _ _ := h.enable
  streamsData := by simp [hst, hport]
  startedReady _ := hready
  waitReady := by simp [hst]
  backoffReady := by simp [hst]

/-- A send in AwaitingAck: nothing of it is on the port. -/
theorem awaitingAck {s : State} (h : ActiveSend s) (hst : s.snd.st = .awaitingAck)
    (hport : s.dataOnPort = false) (hready : s.snd.frameReady = true) (hr : ReceiverInv s) :
    SessionInv s where
  toSpecInv := h.specInv (by simp [hst]) hr
  activeEnabled _ _ := h.enable
  streamsData := by simp [hst, hport]
  startedReady := by simp [hst]
  waitReady _ := hready
  backoffReady := by simp [hst]

/-- A send in BackingOff: nothing of it is on the port, and the next attempt has not started. -/
theorem backingOff {s : State} (h : ActiveSend s) (hst : s.snd.st = .backingOff)
    (hport : s.dataOnPort = false) (hready : s.snd.frameReady = true) (hstart : s.snd.started = false)
    (hr : ReceiverInv s) : SessionInv s where
  toSpecInv := h.specInv (by simp [hst]) hr
  activeEnabled _ _ := h.enable
  streamsData := by simp [hst, hport]
  startedReady := by simp [hst]
  waitReady := by simp [hst]
  backoffReady _ := ⟨hready, hstart⟩

end ActiveSend

theorem satSucc8_pos (v : Byte) : 1 ≤ (satSucc8 v).toNat := by
  simp only [satSucc8, BitVec.toNat_ofNat]
  omega

/-! ### P2 and P3 -/

theorem abandonPort_dataOnPort (s : State) : (abandonPort s).dataOnPort = false := by
  cases h : s.eng.busy <;> simp [abandonPort, State.dataOnPort, h]

theorem transportPhase_session {s : State} (h : SessionInv s) : SessionInv (transportPhase s) := by
  have hr : ReceiverInv s := h.receiverInv
  rcases transportPhase_cases s with heq | ⟨heq, hst⟩ | ⟨heq, -⟩ <;> rw [heq]
  · exact h
  · have hns : s.snd.st ≠ .sending := SenderState.ne_of_inactive hst rfl
    exact .of_inactive hst (h.noAbort hns) (fun hi => ⟨(h.idleClear hi).1, (h.idleClear hi).2.2⟩)
      (abandonPort_dataOnPort s) ⟨hr.held, hr.empty⟩
  · exact .of_goIdle rfl (abandonPort_dataOnPort s) ⟨hr.held, hr.empty⟩

/-- While a frame is skipped the assembler stays empty (R145(e)). -/
theorem AsmAfter.discard_empty {a b : Assembler} (h : AsmAfter a b) (ha : a.discard = true → a.n = 0)
    (hb : b.discard = true) : b.n = 0 := by
  cases h with
  | kept => exact ha hb
  | discardEnds => cases hb
  | taken _ hd => simp [hd] at hb
  | cleared _ => rfl

theorem FrameActed.held {s u : State} (h : FrameActed s u)
    (hs : s.regs.rxAcked = true → s.regs.rxValid = true) : u.regs.rxAcked = true → u.regs.rxValid = true := by
  cases h with
  | none | dropped _ | acked _ => exact hs
  | delivered _ _ _ => simp

theorem FrameActed.session {s u : State} (hu : FrameActed s u) (h : SessionInv s) : SessionInv u := by
  have hk := hu.receiverOnly
  refine h.of_same_send hk.snd hk.seq (fun _ => hk.nodeAddr) (fun he => ?_) ?_ ⟨hu.held h.ackedHeld, ?_⟩
  · rwa [State.enable, hk.ctrl]
  · simp only [State.dataOnPort, hk.eng]
  · rw [hu.asm_eq]
    exact h.discardEmpty

/-! ### P4 and P5 -/

/-- Between P4 and P5 of the cycle in which a data frame ends (R602, R503): the sender is still in Sending while
the port has gone on; with the engine put back the session invariant holds. -/
structure FrameEnded (s : State) : Prop where
  session : ∃ e, SessionInv { s with eng := e }
  st : s.snd.st = .sending
  started : s.snd.started = true
  port : s.dataOnPort = false
  done : s.cyc.txDone = some .data

/-- P4's first step: the invariant stays, or the send's own frame has ended. -/
theorem handshake_session {s : State} (h : SessionInv s) (hdone : s.cyc.txDone = none) :
    (SessionInv (handshake s) ∧ (handshake s).cyc.txDone ≠ some .data) ∨ FrameEnded (handshake s) := by
  have hr : ReceiverInv s := h.receiverInv
  rcases handshake_cases s with ⟨heq, -⟩ | ⟨heq, -⟩ | ⟨heq, hbusy, -⟩ <;> rw [heq]
  · exact .inl ⟨h, by simp [hdone]⟩
  · exact .inl ⟨h.of_same_send rfl rfl (fun _ => rfl) id rfl ⟨hr.held, hr.empty⟩, by simp [hdone]⟩
  · cases hk : s.eng.kind with
    | ack =>
      have hport : (finishFrame s).dataOnPort = s.dataOnPort := by
        simp [finishFrame, State.dataOnPort, hk]
      refine .inl ⟨h.of_same_send ?_ ?_ ?_ ?_ hport ⟨?_, ?_⟩, ?_⟩ <;>
        simp +contextual [finishFrame, hk, State.enable, hr.held, hr.empty]
    | data =>
      obtain ⟨hst, hstart⟩ := h.streamsData.1 (by simp [State.dataOnPort, hbusy, hk])
      refine .inr ⟨⟨s.eng, ?_⟩, ?_, ?_, ?_, ?_⟩
      · refine h.of_same_send ?_ ?_ ?_ ?_ ?_ ⟨?_, ?_⟩ <;>
          simp +contextual [finishFrame, hk, State.enable, State.dataOnPort, hr.held, hr.empty]
      all_goals simp [finishFrame, hk, State.dataOnPort, hst, hstart]

theorem loadAck_dataOnPort (s : State) : (loadAck s).dataOnPort = false := rfl

theorem dataOnPort_of_idle {s : State} (h : s.eng.busy = false) : s.dataOnPort = false := by
  simp [State.dataOnPort, h]

/-- P4's second step keeps the invariant: an ack is loaded beside the send, a data frame starts its attempt. -/
theorem loadGranted_session {s : State} (h : SessionInv s) : SessionInv (loadGranted s) := by
  have hr : ReceiverInv s := h.receiverInv
  rcases loadGranted_cases s with heq | ⟨heq, hgrant⟩ | ⟨heq, hgrant⟩ <;> rw [heq]
  · exact h
  · obtain ⟨hidle, -⟩ := (arbiter_eq_ack_iff s).1 hgrant
    exact h.of_same_send rfl rfl (fun _ => rfl) id
      (by rw [loadAck_dataOnPort, dataOnPort_of_idle hidle]) ⟨hr.held, hr.empty⟩
  · obtain ⟨-, -, -, -, hst, hready, -, hab⟩ := (arbiter_eq_data_iff s).1 hgrant
    obtain ⟨hseq, hsrc, hatt, -, hen⟩ := h.activeSend (by rw [hst]; rfl) hab
    exact ActiveSend.sending ⟨hseq, hsrc, hatt, hab, hen⟩ hst rfl (fun _ => hready) ⟨hr.held, hr.empty⟩

theorem loadGranted_txDone (s : State) : (loadGranted s).cyc.txDone = s.cyc.txDone := by
  rcases loadGranted_cases s with heq | ⟨heq, -⟩ | ⟨heq, -⟩ <;> rw [heq] <;> rfl

/-- After the send's frame has ended P4 can load an ack and no second data frame, since the attempt has
started. -/
theorem FrameEnded.loadGranted {s : State} (h : FrameEnded s) : FrameEnded (loadGranted s) := by
  rcases loadGranted_cases s with heq | ⟨heq, -⟩ | ⟨-, hgrant⟩
  · rwa [heq]
  · rw [heq]
    obtain ⟨e, he⟩ := h.session
    refine ⟨⟨e, ?_⟩, h.st, h.started, loadAck_dataOnPort s, h.done⟩
    exact he.of_same_send rfl rfl (fun _ => rfl) id rfl ⟨he.ackedHeld, he.discardEmpty⟩
  · obtain ⟨-, -, -, -, -, -, hstart, -⟩ := (arbiter_eq_data_iff s).1 hgrant
    simp [h.started] at hstart

/-- P5 takes up the ended frame (R503): a pending abort ends the send, else it waits for the ack. -/
theorem FrameEnded.senderPhase {s : State} (h : FrameEnded s) : SessionInv (senderPhase s) := by
  obtain ⟨⟨e, hs⟩, hst, hstart, hport, hdone⟩ := h
  have hready : s.snd.frameReady = true := hs.startedReady hst hstart
  have hr : ReceiverInv s := ⟨hs.ackedHeld, hs.discardEmpty⟩
  cases hab : s.snd.abortPend with
  | true =>
    have heq : Machine.senderPhase s = fail .aborted s := by
      simp [Machine.senderPhase, sendingStep, hst, hready, hdone, hab]
    rw [heq]
    exact .of_goIdle rfl hport ⟨hr.held, hr.empty⟩
  | false =>
    have heq : Machine.senderPhase s = { s with snd := { s.snd with st := .awaitingAck, elapsed := 0 } } := by
      simp [Machine.senderPhase, sendingStep, hst, hready, hdone, hab]
    obtain ⟨hseq, hsrc, hatt, -, hen⟩ := hs.activeSend (congrArg SenderState.active hst) hab
    rw [heq]
    exact ActiveSend.awaitingAck ⟨hseq, hsrc, hatt, hab, hen⟩ rfl hport hready ⟨hr.held, hr.empty⟩

/-- P5 keeps the invariant when no data frame ended in the cycle (R502 to R511). -/
theorem senderPhase_session {s : State} (h : SessionInv s) (hdone : s.cyc.txDone ≠ some .data) :
    SessionInv (senderPhase s) := by
  have hr : ReceiverInv s := h.receiverInv
  have hactive : ∀ st : SenderState, st.active = true → st ≠ .sending → s.snd.st = st →
      ActiveSend s ∧ s.dataOnPort = false := by
    rintro _ hst hns rfl
    exact ⟨h.activeSend hst (h.noAbort hns), h.port_eq_false fun hs => hns hs.1⟩
  rcases senderPhase_cases s with heq | ⟨heq, hst, hready⟩ | ⟨-, -, -, hdata, -⟩ | ⟨-, -, -, hdata, -⟩ |
    ⟨heq, hst, -⟩ | ⟨e, heq, hst, -⟩ | ⟨e, heq, hst, -⟩ | ⟨heq, hst⟩ | ⟨heq, hst, -⟩ | ⟨heq, hst⟩
  · rwa [heq]
  · have hstart : s.snd.started = false := by
      by_contra hs
      simp [h.startedReady hst (by simpa using hs)] at hready
    have hab : s.snd.abortPend = false := by
      by_contra ha
      simpa [hstart] using (h.abortStreams (by simpa using ha)).2.1
    have hport : s.dataOnPort = false := h.port_eq_false (by simp [hstart])
    obtain ⟨hseq, hsrc, hatt, -, hen⟩ := h.activeSend (by rw [hst]; rfl) hab
    rw [heq]
    exact ActiveSend.sending ⟨hseq, hsrc, hatt, hab, hen⟩ hst (hport.trans hstart.symm)
      (by simp [checksumPass, hstart]) ⟨hr.held, hr.empty⟩
  · exact absurd hdata hdone
  · exact absurd hdata hdone
  · obtain ⟨hsend, hport⟩ := hactive .awaitingAck rfl (by decide) hst
    rw [heq]
    exact .of_inactive rfl hsend.abort (by simp) hport ⟨hr.held, hr.empty⟩
  · obtain ⟨⟨hseq, hsrc, hatt, hab, hen⟩, hport⟩ := hactive .awaitingAck rfl (by decide) hst
    rw [heq]
    exact ActiveSend.awaitingAck ⟨hseq, hsrc, hatt, hab, hen⟩ hst hport (h.waitReady hst) ⟨hr.held, hr.empty⟩
  · obtain ⟨⟨hseq, hsrc, -, hab, hen⟩, hport⟩ := hactive .awaitingAck rfl (by decide) hst
    rw [heq]
    exact ActiveSend.backingOff ⟨hseq, hsrc, satSucc8_pos _, hab, hen⟩ rfl hport (h.waitReady hst) rfl
      ⟨hr.held, hr.empty⟩
  · rw [heq]
    exact .of_goIdle rfl (h.port_eq_false (by simp [hst])) ⟨hr.held, hr.empty⟩
  · obtain ⟨⟨hseq, hsrc, hatt, hab, hen⟩, hport⟩ := hactive .backingOff rfl (by decide) hst
    obtain ⟨hready, hstart⟩ := h.backoffReady hst
    rw [heq]
    exact ActiveSend.sending ⟨hseq, hsrc, hatt, hab, hen⟩ rfl (hport.trans hstart.symm) (fun _ => hready)
      ⟨hr.held, hr.empty⟩
  · obtain ⟨⟨hseq, hsrc, hatt, hab, hen⟩, hport⟩ := hactive .backingOff rfl (by decide) hst
    obtain ⟨hready, hstart⟩ := h.backoffReady hst
    rw [heq]
    exact ActiveSend.backingOff ⟨hseq, hsrc, hatt, hab, hen⟩ hst hport hready hstart ⟨hr.held, hr.empty⟩

theorem beforeWrite_session {s : State} (hdone : s.cyc.txDone = none) (h : SessionInv s) :
    SessionInv (beforeWrite s) := by
  rcases handshake_session h hdone with ⟨hs, hne⟩ | hended
  · exact senderPhase_session (loadGranted_session hs) (by rwa [loadGranted_txDone])
  · exact hended.loadGranted.senderPhase

/-! ### P6 -/

theorem startSend_session {s : State} (h : SessionInv s) (hen : s.enable = true) (hst : s.snd.st = .idle) :
    SessionInv (startSend s) :=
  ActiveSend.sending ⟨rfl, rfl, le_refl 1, rfl, hen⟩ rfl (h.port_eq_false (by simp [hst])) (by simp [startSend])
    ⟨h.ackedHeld, h.discardEmpty⟩

theorem streamingData_eq (s : State) : s.streamingData = (s.snd.started && s.dataOnPort) := by
  simp [State.streamingData, State.dataOnPort, Bool.and_assoc]

/-- ABORT keeps the invariant even where ENABLE has just been cleared (R512, R513): with the old CTRL put back
the state had it. -/
theorem abortSend_session {s : State} (c : Byte)
    (h : SessionInv { s with regs := { s.regs with ctrl := c } }) : SessionInv (abortSend s) := by
  have hr : ReceiverInv s := ⟨h.ackedHeld, h.discardEmpty⟩
  rcases abortSend_cases s with ⟨heq, hst⟩ | ⟨heq, hst, hstream⟩ | ⟨heq, -, hns⟩ <;> rw [heq]
  · have hns : s.snd.st ≠ .sending := SenderState.ne_of_inactive hst rfl
    exact .of_inactive hst (h.noAbort hns) (fun hi => ⟨(h.idleClear hi).1, (h.idleClear hi).2.2⟩)
      (h.port_eq_false fun hs => hns hs.1) hr
  · obtain ⟨hstart, hport⟩ : s.snd.started = true ∧ s.dataOnPort = true := by
      simpa [streamingData_eq] using hstream
    exact
      { latchedSeq := h.latchedSeq
        latchedSrc := by simp
        attemptPos := h.attemptPos
        idleClear := by simp [hst]
        abortStreams := fun _ => ⟨hst, hstart, hport⟩
        ackedHeld := hr.held
        discardEmpty := hr.empty
        activeEnabled := by simp
        streamsData := h.streamsData
        startedReady := h.startedReady
        waitReady := h.waitReady
        backoffReady := h.backoffReady }
  · refine .of_goIdle rfl (h.port_eq_false fun hs => ?_) ⟨hr.held, hr.empty⟩
    have hport : s.dataOnPort = true := h.streamsData.2 hs
    have hstart : s.snd.started = true := hs.2
    exact hns ⟨hs.1, by rw [streamingData_eq, hstart, hport]; rfl⟩

theorem hwReset_session (s : State) : SessionInv (hwReset s) :=
  .of_goIdle (show _ = Sender.reset.goIdle from rfl) rfl ⟨by simp [Regs.reset], by simp [State.reset]⟩

theorem HostWrote.session {i : Instr} {s t : State} (hw : HostWrote i s t) (h : SessionInv s) :
    SessionInv t := by
  have hr : ReceiverInv s := h.receiverInv
  cases hw with
  | reset => exact hwReset_session s
  | stored v _ hv =>
    refine h.of_same_send rfl rfl (fun _ => rfl) (fun he => ?_) rfl ⟨hr.held, hr.empty⟩
    simp [State.enable, hv he]
  | disabled v _ _ _ =>
    rw [disable_eq]
    exact abortSend_session s.regs.ctrl (h.of_same_send rfl rfl (fun _ => rfl) id rfl ⟨hr.held, hr.empty⟩)
  | buffer idx v _ _ _ => exact h.of_same_send rfl rfl (fun _ => rfl) id rfl ⟨hr.held, hr.empty⟩
  | started _ hen hst => exact startSend_session h hen hst
  | aborted => exact abortSend_session s.regs.ctrl h
  | plain _ _ _ hp =>
    have hasm : t.asm = s.asm := by rw [hp.frame]
    have heng : t.eng = s.eng := by rw [hp.frame]
    refine h.of_same_send (by rw [hp.frame]) hp.seq hp.nodeAddr (fun he => ?_) ?_ ⟨fun hack => ?_, ?_⟩
    · rwa [State.enable, hp.ctrl]
    · simp only [State.dataOnPort, heng]
    · obtain ⟨hacked, hvalid⟩ := hp.held hack
      rw [hvalid]
      exact hr.held hacked
    · rw [hasm]
      exact hr.empty

/-! ### The step -/

theorem sessionInv_keptByPhases : KeptByPhases SessionInv where
  resets := hwReset_session
  starts _ h := h.of_same_send rfl rfl (fun _ => rfl) id rfl ⟨h.ackedHeld, h.discardEmpty⟩
  transport _ := transportPhase_session
  intake _ _ ha h := h.of_same_send rfl rfl (fun _ => rfl) id rfl
    ⟨h.ackedHeld, ha.discard_empty h.discardEmpty⟩
  frame _ _ := FrameActed.session
  transmit _ := beforeWrite_session
  host _ _ _ := HostWrote.session
  ends _ h := h.of_same_send rfl rfl (fun _ => rfl) id rfl ⟨h.ackedHeld, h.discardEmpty⟩

/-- Settles O56: every phase of a cycle keeps the session invariant, P4 and P5 together. -/
theorem everyStepKeepsTheSessionInvariant : Obligations.EveryStepKeepsTheSessionInvariant := by
  unfold Obligations.EveryStepKeepsTheSessionInvariant
  exact fun _ _ => sessionInv_keptByPhases.step

end Sys2Proof.Machine
end

section
/-! ## SEQ (R110, R517) -/

namespace Sys2Proof.Machine

/-- Up to the end of P5 SEQ is kept, or advances from AwaitingAck to Delivered. -/
theorem beforeWrite_seq {s s3 : State} (h : receivePhase (transportPhase (startCycle s)) = .next s3) :
    (beforeWrite s3).regs.seq = s.regs.seq ∨
      ((beforeWrite s3).regs.seq = s.regs.seq + 1#8 ∧ s.snd.st = .awaitingAck ∧
        (beforeWrite s3).snd.st = .delivered) := by
  have hk := receivePhase_receiverOnly h
  have hseq3 : s3.regs.seq = s.regs.seq := by rw [hk.seq, transportPhase_seq, startCycle_regs]
  have hst3 : s3.snd.st = s.snd.st ∨ s3.snd.st = .idle := by
    rw [hk.snd]
    exact transportPhase_st (startCycle s)
  obtain ⟨_, _, _, _, _, htx⟩ := transmit_frame s3
  have hseq4 : (loadGranted (handshake s3)).regs.seq = s.regs.seq := by rw [htx]; exact hseq3
  have hst4 : (loadGranted (handshake s3)).snd.st = s3.snd.st := by rw [htx]
  rcases senderPhase_seq (loadGranted (handshake s3)) with h5 | ⟨h5, hwait, hdeliv⟩
  · exact .inl (h5.trans hseq4)
  · rw [hst4] at hwait
    refine .inr ⟨by rw [beforeWrite, h5, hseq4], ?_, hdeliv⟩
    rcases hst3 with hst | hst <;> rw [hst] at hwait
    · exact hwait
    · cases hwait

theorem abortSend_seq (s : State) : (abortSend s).regs.seq = s.regs.seq := by
  rcases abortSend_cases s with ⟨h, -⟩ | ⟨h, -⟩ | ⟨h, -⟩ <;> rw [h]
  rfl

/-- A sender in Delivered ignores an abort (R512). -/
theorem abortSend_delivered {s : State} (hst : s.snd.st = .delivered) : abortSend s = s := by
  simp [abortSend, hst]

/-- No host write but SOFT_RESET writes SEQ (R110). -/
theorem HostWrote.seq {i : Instr} {s t : State} (h : HostWrote i s t) :
    t.regs.seq = s.regs.seq ∨ (i = .softReset ∧ t.regs.seq = 0x00#8) := by
  cases h with
  | reset => exact .inr ⟨rfl, rfl⟩
  | disabled => exact .inl (by rw [disable_eq, abortSend_seq])
  | aborted => exact .inl (abortSend_seq s)
  | plain _ _ _ hp => exact .inl hp.seq
  | stored | buffer | started => exact .inl rfl

/-- No host write but SOFT_RESET takes the sender out of Delivered (R511, R512). -/
theorem HostWrote.delivered {i : Instr} {s t : State} (h : HostWrote i s t) (hst : s.snd.st = .delivered) :
    t.snd.st = .delivered ∨ (i = .softReset ∧ t.regs.seq = 0x00#8) := by
  cases h with
  | reset => exact .inr ⟨rfl, rfl⟩
  | disabled =>
    rw [disable_eq, abortSend_delivered (by exact hst)]
    exact .inl hst
  | aborted =>
    rw [abortSend_delivered hst]
    exact .inl hst
  | plain _ _ _ hp => exact .inl (by rw [hp.frame]; exact hst)
  | started _ _ hidle => simp [hst] at hidle
  | stored | buffer => exact .inl hst

/-- Settles O54: P5 alone advances SEQ, and of the host's writes SOFT_RESET alone touches it. -/
theorem sequenceNumberLaw : Obligations.SequenceNumberLaw := by
  unfold Obligations.SequenceNumberLaw
  intro s t h
  rcases step_cases h with ⟨hrst, rfl⟩ | ⟨s3, s6, hrecv, hhost, rfl⟩
  · exact .inr (.inr ⟨rfl, .inl hrst⟩)
  · have h5 := beforeWrite_seq hrecv
    rcases hostPhase_cases hhost with rfl | ⟨i, hi, hw⟩
    · exact h5.imp_right .inl
    · rcases hw.seq with hseq | ⟨rfl, hzero⟩
      · rcases h5 with h5 | ⟨h5, hwait, hdeliv⟩
        · exact .inl (hseq.trans h5)
        · rcases hw.delivered hdeliv with hst | ⟨rfl, hzero⟩
          · exact .inr (.inl ⟨hseq.trans h5, hwait, hst⟩)
          · exact .inr (.inr ⟨hzero, .inr hi⟩)
      · exact .inr (.inr ⟨hzero, .inr hi⟩)

end Sys2Proof.Machine
end

section
/-! ## The storages (R130, R131, R143, R201; log entry 4) -/

namespace Sys2Proof.Machine

/-! ### Where a storage holds bytes -/

theorem mem_memSet {m : Memory} {a : Nat} {v : Byte} {c : Host.Cell} (h : c ∈ memSet m a v) :
    c = (a, v) ∨ c ∈ m := by
  induction m with
  | nil => simpa [memSet] using h
  | cons x rest ih =>
    obtain ⟨k, b⟩ := x
    simp only [memSet] at h
    split_ifs at h
    · simpa using h
    · exact (List.mem_cons.1 h).imp_right (List.mem_cons_of_mem _)
    · rcases List.mem_cons.1 h with rfl | hr
      · exact .inr List.mem_cons_self
      · exact (ih hr).imp_right (List.mem_cons_of_mem _)

/-- A block write holds bytes where there were some or inside the block. -/
theorem mem_memSetList {m : Memory} {a : Nat} {bs : List Byte} {c : Host.Cell}
    (h : c ∈ memSetList m a bs) : (a ≤ c.1 ∧ c.1 < a + bs.length) ∨ c ∈ m := by
  induction bs generalizing m a with
  | nil => exact .inr h
  | cons b rest ih =>
    rw [List.length_cons]
    rcases ih h with hc | hc
    · exact .inl (by omega)
    · exact (mem_memSet hc).imp_left fun heq => by rw [heq]; exact ⟨le_refl a, by omega⟩

theorem mem_memDropFrom {m : Memory} {lo : Nat} {c : Host.Cell} (h : c ∈ memDropFrom m lo) : c ∈ m :=
  List.mem_of_mem_filter h

/-- A place of TX_BUF or of RX_BUF (R201). -/
def inBuffers (k : Nat) : Prop := (0x100 ≤ k ∧ k ≤ 0x1FE) ∨ (0x200 ≤ k ∧ k ≤ 0x2FE)

theorem all_inBuffers_iff (m : Memory) :
    m.all (fun c => decide (0x100 ≤ c.1 ∧ c.1 ≤ 0x1FE) || decide (0x200 ≤ c.1 ∧ c.1 ≤ 0x2FE)) = true ↔
      ∀ c ∈ m, inBuffers c.1 := by
  simp [inBuffers]

namespace StorageInv

/-- The form depends on the two storages alone. -/
theorem congr {s t : State} (h : StorageInv s) (hmem : t.mem = s.mem) (hstage : t.asm.stage = s.asm.stage) :
    StorageInv t :=
  ⟨hmem ▸ h.memForm, hmem ▸ h.memInBuffers, hstage ▸ h.stageForm⟩

theorem inBuffers {s : State} (h : StorageInv s) : ∀ c ∈ s.mem, inBuffers c.1 :=
  (all_inBuffers_iff s.mem).1 h.memInBuffers

end StorageInv

/-! ### The phases that write -/

theorem AsmAfter.stageForm {a b : Assembler} (h : AsmAfter a b)
    (ha : memSorted a.stage 0 Config.maxPayload = true) : memSorted b.stage 0 Config.maxPayload = true := by
  cases h with
  | kept | discardEnds | cleared _ => exact ha
  | taken v _ =>
    simp only [Assembler.take]
    split_ifs with hi
    · exact memSorted_memSet _ _ _ _ _ (Nat.zero_le _) hi.2 ha
    · exact ha

/-- A delivery writes RX_BUF alone (R556). -/
theorem FrameActed.storage {s u : State} (hu : FrameActed s u) (h : StorageInv s) : StorageInv u := by
  refine ⟨?_, (all_inBuffers_iff u.mem).2 fun c hc => ?_, by rw [hu.asm_eq]; exact h.stageForm⟩
  · cases hu with
    | none | dropped _ | acked _ => exact h.memForm
    | delivered hd p hlen =>
      rw [deliver_mem]
      exact Memory.wf_memSetList _ _ _ (by rw [rxBufBase]; omega) (Memory.wf_memDropFrom _ _ h.memForm)
  · cases hu with
    | none | dropped _ | acked _ => exact h.inBuffers c hc
    | delivered hd p hlen =>
      rw [deliver_mem] at hc
      rcases mem_memSetList hc with ⟨hlo, hhi⟩ | hc
      · rw [rxBufBase] at hlo hhi
        exact .inr ⟨hlo, by omega⟩
      · exact h.inBuffers c (mem_memDropFrom hc)

/-- WR_TX_BUF writes TX_BUF alone (R654). -/
theorem setTxBuf_storage {s : State} {idx : Byte} (v : Byte) (h : StorageInv s) (hidx : idx ≠ 0xFF#8) :
    StorageInv (setTxBuf s idx.toNat v) := by
  have hlt : idx.toNat < 255 := by bv_omega
  refine ⟨?_, (all_inBuffers_iff _).2 fun c hc => ?_, h.stageForm⟩
  · rw [setTxBuf_mem]
    exact Memory.wf_memSet _ _ _ (by rw [txBufBase]; omega) h.memForm
  · rcases mem_memSet hc with rfl | hc
    · exact .inl (by simp only [txBufBase]; omega)
    · exact h.inBuffers c hc

theorem abortSend_mem (s : State) : (abortSend s).mem = s.mem := by
  rcases abortSend_cases s with ⟨h, -⟩ | ⟨h, -⟩ | ⟨h, -⟩ <;> rw [h]
  rfl

theorem abortSend_asm (s : State) : (abortSend s).asm = s.asm := by
  rcases abortSend_cases s with ⟨h, -⟩ | ⟨h, -⟩ | ⟨h, -⟩ <;> rw [h]
  rfl

theorem beforeWrite_mem (s : State) : (beforeWrite s).mem = s.mem := by
  obtain ⟨_, _, _, _, _, h1⟩ := transmit_frame s
  obtain ⟨_, _, _, _, _, h2⟩ := senderPhase_frame (loadGranted (handshake s))
  rw [beforeWrite, h2, h1]

theorem beforeWrite_asm (s : State) : (beforeWrite s).asm = s.asm := by
  obtain ⟨_, _, _, _, _, h1⟩ := transmit_frame s
  obtain ⟨_, _, _, _, _, h2⟩ := senderPhase_frame (loadGranted (handshake s))
  rw [beforeWrite, h2, h1]

theorem hwReset_storage (s : State) : StorageInv (hwReset s) := ⟨rfl, rfl, rfl⟩

theorem HostWrote.storage {i : Instr} {s t : State} (hw : HostWrote i s t) (h : StorageInv s) :
    StorageInv t := by
  cases hw with
  | reset => exact hwReset_storage s
  | buffer idx v _ _ hidx => exact setTxBuf_storage v h hidx
  | disabled => exact h.congr (by rw [disable_eq, abortSend_mem]) (by rw [disable_eq, abortSend_asm])
  | aborted => exact h.congr (abortSend_mem s) (by rw [abortSend_asm])
  | plain _ _ _ hp => exact h.congr (by rw [hp.frame]) (by rw [hp.frame])
  | stored | started => exact h.congr rfl rfl

theorem storageInv_keptByPhases : KeptByPhases StorageInv where
  resets := hwReset_storage
  starts _ h := h.congr rfl rfl
  transport s h := h.congr (transportPhase_mem s) (by rw [transportPhase_asm])
  intake _ _ ha h := ⟨h.memForm, h.memInBuffers, ha.stageForm h.stageForm⟩
  frame _ _ := FrameActed.storage
  transmit s _ h := h.congr (beforeWrite_mem s) (by rw [beforeWrite_asm])
  host _ _ _ := HostWrote.storage
  ends _ h := h.congr rfl rfl

/-- Settles O59: only the intake, a delivery and WR_TX_BUF write a storage, each inside its buffer. -/
theorem everyStepKeepsTheStorageForm : Obligations.EveryStepKeepsTheStorageForm := by
  unfold Obligations.EveryStepKeepsTheStorageForm
  exact fun _ _ => storageInv_keptByPhases.step

end Sys2Proof.Machine
end

section
/-! ## The codes and the ranges (R105, R142, R143, R702 to R704) -/

namespace Sys2Proof.Machine

/-! ### CTRL and the code registers -/

theorem FailCause.code_le (c : FailCause) : c.code.toNat ≤ 3 := (code_ranges c .oversize .busy).1
theorem DropCause.code_le (c : DropCause) : c.code.toNat ≤ 6 := (code_ranges .aborted c .busy).2.1
theorem CmdCause.code_le (c : CmdCause) : c.code.toNat ≤ 5 := (code_ranges .aborted .oversize c).2.2

/-- A CTRL store keeps the reserved bits 0 (R652). -/
theorem storedCtrl_reserved (v : Byte) : v &&& 0x07#8 &&& 0xF8#8 = 0#8 := by
  rw [BitVec.and_assoc]
  exact BitVec.and_zero

namespace CodesInv

/-- The codes depend on four registers alone. -/
theorem congr {s t : State} (h : CodesInv s) (hregs : t.regs = s.regs) : CodesInv t :=
  ⟨hregs ▸ h.ctrlReserved, hregs ▸ h.failCode, hregs ▸ h.dropCode, hregs ▸ h.cmdErrCode⟩

theorem fail {s : State} (h : CodesInv s) (c : FailCause) : CodesInv (fail c s) :=
  ⟨h.ctrlReserved, c.code_le, h.dropCode, h.cmdErrCode⟩

theorem storeCtrl {s : State} (h : CodesInv s) (v : Byte) :
    CodesInv { s with regs := { s.regs with ctrl := v &&& 0x07#8 } } :=
  ⟨storedCtrl_reserved v, h.failCode, h.dropCode, h.cmdErrCode⟩

end CodesInv

theorem transportPhase_codes {s : State} (h : CodesInv s) : CodesInv (transportPhase s) := by
  rcases transportPhase_cases s with heq | ⟨heq, -⟩ | ⟨heq, -⟩ <;> rw [heq]
  · exact h
  · exact h.congr rfl
  · exact (h.congr rfl : CodesInv (abandonPort s)).fail _

theorem FrameActed.codes {s u : State} (hu : FrameActed s u) (h : CodesInv s) : CodesInv u := by
  cases hu with
  | none => exact h
  | dropped c => exact ⟨h.ctrlReserved, h.failCode, c.code_le, h.cmdErrCode⟩
  | acked => exact h.congr rfl
  | delivered hd p _ =>
    constructor <;> rw [deliver_regs]
    exacts [h.ctrlReserved, h.failCode, h.dropCode, h.cmdErrCode]

theorem beforeWrite_codes {s : State} (h : CodesInv s) : CodesInv (beforeWrite s) := by
  obtain ⟨_, _, _, _, _, h1⟩ := transmit_frame s
  have h4 : CodesInv (loadGranted (handshake s)) := h.congr (by rw [h1])
  obtain ⟨_, _, _, _, _, h2⟩ := senderPhase_frame (loadGranted (handshake s))
  refine ⟨?_, ?_, ?_, ?_⟩
  · rw [beforeWrite, h2]
    exact h4.ctrlReserved
  · rcases senderPhase_failCode (loadGranted (handshake s)) with hf | ⟨c, hf⟩ <;> rw [beforeWrite, hf]
    · exact h4.failCode
    · exact c.code_le
  · rw [beforeWrite, h2]
    exact h4.dropCode
  · rw [beforeWrite, h2]
    exact h4.cmdErrCode

theorem abortSend_codes {s : State} (h : CodesInv s) : CodesInv (abortSend s) := by
  rcases abortSend_cases s with ⟨heq, -⟩ | ⟨heq, -⟩ | ⟨heq, -⟩ <;> rw [heq]
  · exact h
  · exact h.congr rfl
  · exact h.fail _

theorem PlainWrite.codes {s t : State} (hp : PlainWrite s t) (h : CodesInv s) : CodesInv t := by
  refine ⟨by rw [hp.ctrl]; exact h.ctrlReserved, ?_, by rw [hp.dropCode]; exact h.dropCode, ?_⟩
  · rcases hp.failCode with hf | ⟨c, hf⟩ <;> rw [hf]
    · exact h.failCode
    · exact c.code_le
  · rcases hp.cmdErrCode with hf | ⟨c, hf⟩ <;> rw [hf]
    · exact h.cmdErrCode
    · exact c.code_le

theorem hwReset_codes (s : State) : CodesInv (hwReset s) := by
  constructor <;> simp [Regs.reset]

theorem HostWrote.codes {i : Instr} {s t : State} (hw : HostWrote i s t) (h : CodesInv s) : CodesInv t := by
  cases hw with
  | reset => exact hwReset_codes s
  | stored v => exact h.storeCtrl v
  | disabled v => exact abortSend_codes ((h.storeCtrl v).congr rfl)
  | started => exact ⟨h.ctrlReserved, Nat.zero_le 3, h.dropCode, h.cmdErrCode⟩
  | aborted => exact abortSend_codes h
  | plain _ _ _ hp => exact hp.codes h
  | buffer => exact h.congr rfl

theorem codesInv_keptByPhases : KeptByPhases CodesInv where
  resets := hwReset_codes
  starts _ h := h.congr rfl
  transport _ := transportPhase_codes
  intake _ _ _ h := h.congr rfl
  frame _ _ := FrameActed.codes
  transmit _ _ := beforeWrite_codes
  host _ _ _ := HostWrote.codes
  ends _ h := ⟨h.ctrlReserved, h.failCode, h.dropCode, h.cmdErrCode⟩

/-! ### The ranges of h.rx_n and h.eng_idx -/

namespace RangeInv

/-- The ranges depend on the assembler's count and the engine alone. -/
theorem congr {s t : State} (h : RangeInv s) (heng : t.eng = s.eng) (hn : t.asm.n = s.asm.n) : RangeInv t :=
  ⟨hn ▸ h.rxCountRange, heng ▸ h.engIdxRange, heng ▸ h.engIdleIdx, heng ▸ h.engIdxInFrame⟩

/-- An engine at the start of a frame, or idle at index 0, is in range. -/
theorem of_idx_zero {s : State} (hn : s.asm.n.toNat ≤ 262) (hidx : s.eng.idx = 0) : RangeInv s := by
  constructor <;> simp [hn, hidx]

end RangeInv

theorem abandonPort_range {s : State} (h : RangeInv s) : RangeInv (abandonPort s) := by
  refine .of_idx_zero h.rxCountRange ?_
  cases hb : s.eng.busy with
  | false => simpa [abandonPort, hb] using h.engIdleIdx hb
  | true => simp [abandonPort, hb]

theorem transportPhase_range {s : State} (h : RangeInv s) : RangeInv (transportPhase s) := by
  rcases transportPhase_cases s with heq | ⟨heq, -⟩ | ⟨heq, -⟩ <;> rw [heq]
  · exact h
  · exact abandonPort_range h
  · exact (abandonPort_range h).congr rfl rfl

/-- The count of bytes stops at 262 (R550). -/
theorem AsmAfter.n_le {a b : Assembler} (h : AsmAfter a b) (ha : a.n.toNat ≤ 262) : b.n.toNat ≤ 262 := by
  cases h with
  | kept | discardEnds => exact ha
  | cleared _ => exact Nat.zero_le 262
  | taken v _ =>
    simp only [Assembler.take, BitVec.toNat_ofNat]
    omega

theorem finishFrame_eng (s : State) : (finishFrame s).eng = { s.eng with busy := false, idx := 0 } := by
  cases h : s.eng.kind <;> simp [finishFrame, h]

theorem finishFrame_asm (s : State) : (finishFrame s).asm = s.asm := by
  cases h : s.eng.kind <;> simp [finishFrame, h]

/-- The handshake moves on one place only before the tlast byte (R602). -/
theorem handshake_range {s : State} (h : RangeInv s) : RangeInv (handshake s) := by
  rcases handshake_cases s with ⟨heq, -⟩ | ⟨heq, hbusy, hlast⟩ | ⟨heq, -⟩ <;> rw [heq]
  · exact h
  · have hin : s.eng.idx.toNat < s.eng.plen.toNat + 5 :=
      lt_of_le_of_ne (h.engIdxInFrame hbusy) (by simpa [State.engineAtLast] using hlast)
    have hplen : s.eng.plen.toNat < 256 := s.eng.plen.isLt
    have hidx : (s.eng.idx + 1).toNat = s.eng.idx.toNat + 1 := by bv_omega
    refine ⟨h.rxCountRange, ?_, by simp [hbusy], fun _ => ?_⟩
    · simp only [hidx]
      omega
    · simp only [hidx]
      omega
  · exact .of_idx_zero (by rw [finishFrame_asm]; exact h.rxCountRange) (by rw [finishFrame_eng])

theorem loadGranted_range {s : State} (h : RangeInv s) : RangeInv (loadGranted s) := by
  rcases loadGranted_cases s with heq | ⟨heq, -⟩ | ⟨heq, -⟩ <;> rw [heq]
  · exact h
  · exact .of_idx_zero h.rxCountRange rfl
  · exact .of_idx_zero h.rxCountRange rfl

theorem beforeWrite_range {s : State} (h : RangeInv s) : RangeInv (beforeWrite s) := by
  obtain ⟨_, _, _, _, _, heq⟩ := senderPhase_frame (loadGranted (handshake s))
  rw [beforeWrite, heq]
  exact (loadGranted_range (handshake_range h)).congr rfl rfl

theorem hwReset_range (s : State) : RangeInv (hwReset s) := .of_idx_zero (Nat.zero_le 262) rfl

theorem abortSend_eng (s : State) : (abortSend s).eng = s.eng := by
  rcases abortSend_cases s with ⟨h, -⟩ | ⟨h, -⟩ | ⟨h, -⟩ <;> rw [h]
  rfl

theorem HostWrote.range {i : Instr} {s t : State} (hw : HostWrote i s t) (h : RangeInv s) : RangeInv t := by
  cases hw with
  | reset => exact hwReset_range s
  | disabled => exact h.congr (by rw [disable_eq, abortSend_eng]) (by rw [disable_eq, abortSend_asm])
  | aborted => exact h.congr (abortSend_eng s) (by rw [abortSend_asm])
  | plain _ _ _ hp => exact h.congr (by rw [hp.frame]) (by rw [hp.frame])
  | stored | buffer | started => exact h.congr rfl rfl

theorem rangeInv_keptByPhases : KeptByPhases RangeInv where
  resets := hwReset_range
  starts _ h := h.congr rfl rfl
  transport _ := transportPhase_range
  intake _ _ ha h := ⟨ha.n_le h.rxCountRange, h.engIdxRange, h.engIdleIdx, h.engIdxInFrame⟩
  frame _ _ hu h := h.congr hu.receiverOnly.eng (by rw [hu.asm_eq])
  transmit _ _ := beforeWrite_range
  host _ _ _ := HostWrote.range
  ends _ h := h.congr rfl rfl

/-- Settles O60: every phase keeps the codes, and every phase keeps the ranges. -/
theorem everyStepKeepsTheLegalCodesAndRanges : Obligations.EveryStepKeepsTheLegalCodesAndRanges := by
  unfold Obligations.EveryStepKeepsTheLegalCodesAndRanges
  exact fun _ _ h => ⟨fun hc => codesInv_keptByPhases.step hc h, fun hr => rangeInv_keptByPhases.step hr h⟩

end Sys2Proof.Machine
end

section
/-! ## The view registers (R112, R117) and the reset state (R801) -/

namespace Sys2Proof.Machine

/-- A one-bit field shows its bit at its position and nothing elsewhere. -/
theorem getLsbD_bitAt (b : Bool) (i j : Nat) (hi : i < 8) :
    (bitAt b i).getLsbD j = (b && decide (i = j)) := by
  have hpow : BitVec.ofNat 8 (2 ^ i) = BitVec.twoPow 8 i := by
    rw [← BitVec.toNat_inj]; simp
  cases b with
  | false => simp [bitAt]
  | true => simp [bitAt, hpow, BitVec.getLsbD_twoPow, hi]

/-- A sender state's code has three bits (R500). -/
theorem SenderState.code_getLsbD (st : SenderState) (j : Nat) (hj : 3 ≤ j) : st.code.getLsbD j = false := by
  refine Nat.testBit_lt_two_pow (lt_of_lt_of_le ?_ (Nat.pow_le_pow_right (by omega) hj))
  cases st <;> decide

theorem txStateByte_getLsbD (s : State) (j : Nat) : s.txStateByte.getLsbD j =
    (s.snd.st.code.getLsbD j || s.snd.frameReady && decide (3 = j) || s.snd.abortPend && decide (4 = j) ||
      s.snd.started && decide (5 = j)) := by
  simp [State.txStateByte, getLsbD_bitAt]

theorem rxStatByte_getLsbD (s : State) (j : Nat) : s.rxStatByte.getLsbD j =
    (s.regs.rxValid && decide (0 = j) || s.regs.rxAcked && decide (1 = j) ||
      s.regs.rxLenmm && decide (2 = j) || s.ack.pend && decide (3 = j) ||
      decide (0 < s.asm.n.toNat) && decide (4 = j) || s.asm.discard && decide (5 = j) ||
      s.eng.busy && decide (6 = j)) := by
  simp [State.rxStatByte, getLsbD_bitAt]

/-- TX_STATE bits 2:0 are the sender state's code (R112). -/
theorem txStateByte_low (s : State) : s.txStateByte &&& 0x07#8 = s.snd.st.code := by
  refine BitVec.eq_of_getLsbD_eq fun j hj => ?_
  rw [BitVec.getLsbD_and, txStateByte_getLsbD]
  by_cases hlow : j < 3
  · have h7 : (0x07#8).getLsbD j = true := by interval_cases j <;> rfl
    have h3 : 3 ≠ j := by omega
    have h4 : 4 ≠ j := by omega
    have h5 : 5 ≠ j := by omega
    simp [h7, h3, h4, h5]
  · have h7 : (0x07#8).getLsbD j = false := by interval_cases j <;> rfl
    simp [h7, SenderState.code_getLsbD _ j (by omega)]

/-- Settles O10: each bit of the two view registers, from the bits of their fields. -/
theorem viewRegisterFields : Obligations.ViewRegisterFields := by
  unfold Obligations.ViewRegisterFields
  intro s
  refine ⟨⟨txStateByte_low s, ?_⟩, ⟨rfl, rfl, rfl, rfl, rfl⟩, ?_⟩
  · simp only [txStateByte_getLsbD, SenderState.code_getLsbD, le_refl, Nat.reduceLeDiff]
    simp
  · simp only [rxStatByte_getLsbD]
    simp

/-- With no send active and the port idle the transmit invariant adds nothing to the session invariant. -/
theorem SessionInv.transmitInv_of_idle {s : State} (h : SessionInv s) (hst : s.snd.st = .idle)
    (hport : s.eng.busy = false) : TransmitInv s where
  toSessionInv := h
  passRunning := by simp [hst]
  passDone := by simp [hst, SenderState.active]
  dataLoaded := by simp [dataOnPort_of_idle hport]
  ackLoaded := by simp [hport]
  idxInFrame := by simp [hport]

/-- Settles O55: the reset state is idle, its storages are empty and its codes and counts 0. -/
theorem resetStateHasTheInvariants : Obligations.ResetStateHasTheInvariants := by
  unfold Obligations.ResetStateHasTheInvariants
  have hsession : SessionInv State.reset :=
    .of_goIdle (show _ = Sender.reset.goIdle from rfl) rfl ⟨by decide, by decide⟩
  exact ⟨hsession.transmitInv_of_idle rfl rfl, (hwReset_storage State.reset).congr rfl rfl,
    (hwReset_codes State.reset).congr rfl, (hwReset_range State.reset).congr rfl rfl⟩

end Sys2Proof.Machine
end

section
/-! ## What a cycle leaves alone: the buffers, the TX registers and the held frame (R213, R214) -/

namespace Sys2Proof.Machine

/-! ### Bytes of the buffers -/

theorem txBufByte_congr {s t : State} (hmem : t.mem = s.mem) (hepoch : t.epoch = s.epoch) (i : Nat) :
    t.txBufByte i = s.txBufByte i := by
  rw [State.txBufByte, State.txBufByte, hmem, hepoch]

theorem rxBufByte_congr {s t : State} (hmem : t.mem = s.mem) (hepoch : t.rxEpoch = s.rxEpoch) (j : Nat) :
    t.rxBufByte j = s.rxBufByte j := by
  rw [State.rxBufByte, State.rxBufByte, hmem, hepoch]

/-- A write of TX_BUF leaves RX_BUF alone: the two lie apart (R201). -/
theorem setTxBuf_rxBufByte (s : State) (idx v : Byte) (j : Nat) :
    (setTxBuf s idx.toNat v).rxBufByte j = s.rxBufByte j := by
  have hplace : rxBufBase + j ≠ txBufBase + idx.toNat := by
    rw [rxBufBase, txBufBase]
    have := idx.isLt
    omega
  rw [State.rxBufByte, State.rxBufByte, setTxBuf_mem, memGet?_memSet_other _ _ _ _ hplace]
  rfl

/-- A delivery leaves TX_BUF alone (R556). -/
theorem deliver_txBufByte (h : Header) (p : List Byte) (s : State) {i : Nat} (hi : i < 255) :
    (deliver h p s).txBufByte i = s.txBufByte i := by
  have hlow : txBufBase + i < rxBufBase := by
    rw [rxBufBase, txBufBase]
    omega
  rw [State.txBufByte, State.txBufByte, deliver_mem, deliver_epoch, memGet?_memSetList,
    if_neg (fun hin => absurd hin.1 (Nat.not_le.2 hlow)), memGet?_memDropFrom, if_pos hlow]

/-- The HOST addresses from 0x100 up are no registers (R650). -/
theorem read_eq_readHigh (s : State) {a : Addr} (ha : 0x100 ≤ a.toNat) : s.read a = s.readHigh a.toNat := by
  unfold State.read
  split
  case h_39 => rfl
  all_goals omega

/-- RX_BUF is read at its HOST addresses (R131, R650). -/
theorem read_rxBuf (s : State) {j : Nat} (hj : j < 255) :
    s.read (BitVec.ofNat 10 (rxBufBase + j)) = s.rxBufByte j := by
  have haddr : (BitVec.ofNat 10 (rxBufBase + j)).toNat = 0x200 + j := by
    rw [rxBufBase, BitVec.toNat_ofNat]
    omega
  rw [read_eq_readHigh s (by omega), haddr, State.readHigh, if_neg (by omega), if_pos (by omega),
    Nat.add_sub_cancel_left]

/-! ### The registers a host write keeps -/

/-- The registers SEND latches its header from, locked while a send is active (R213, R654). -/
def Regs.txSetup (r : Regs) : Byte × Byte × Byte := (r.txMcs, r.txDest, r.txLen)

/-- The registers of the held frame (R117 to R119, R214). -/
def Regs.heldFrame (r : Regs) : Bool × Bool × Bool × Header × Byte :=
  (r.rxValid, r.rxAcked, r.rxLenmm, r.rxHdr, r.rxCount)

/-- What the row of a host write keeps: the TX registers unless the sender is Idle, the held frame's unless the
row releases or accepts it. -/
structure RowKeeps (i : Instr) (s t : State) : Prop where
  setup : s.snd.st ≠ .idle → t.regs.txSetup = s.regs.txSetup
  held : i ≠ .rxRelease → i ≠ .rxAccept → t.regs.heldFrame = s.regs.heldFrame

theorem RowKeeps.of_eq {i : Instr} {s t : State} (htx : t.regs.txSetup = s.regs.txSetup)
    (hrx : t.regs.heldFrame = s.regs.heldFrame) : RowKeeps i s t := ⟨fun _ => htx, fun _ _ => hrx⟩

/-- A locked write keeps the TX registers because it is refused outside Idle (R654). -/
theorem txLocked_rowKeeps {i : Instr} {s t : State} {f : State → State}
    (hrx : (f s).regs.heldFrame = s.regs.heldFrame) (h : txLocked s f = .next t) : RowKeeps i s t := by
  rcases txLocked_cases s f with ⟨heq, hst⟩ | ⟨heq, -⟩ <;> rw [heq] at h <;> cases h
  · exact ⟨fun hne => absurd hst hne, fun _ _ => hrx⟩
  · exact .of_eq rfl rfl

/-- ABORT writes no register but TX_FAIL_CODE (R512). -/
theorem abortSend_regs (s : State) : ∃ f, (abortSend s).regs = { s.regs with txFailCode := f } := by
  rcases abortSend_cases s with ⟨h, -⟩ | ⟨h, -⟩ | ⟨h, -⟩ <;> rw [h] <;> exact ⟨_, rfl⟩

theorem abortSend_rowKeeps (i : Instr) (s : State) : RowKeeps i s (abortSend s) := by
  obtain ⟨_, hregs⟩ := abortSend_regs s
  exact .of_eq (by rw [hregs]; rfl) (by rw [hregs]; rfl)

/-- Each row of a host write but SOFT_RESET keeps the TX registers and the held frame's where it must. -/
theorem exec_rowKeeps {i : Instr} {s t : State} (hi : i.isHostWrite = true) (hreset : i ≠ .softReset)
    (h : exec i s = .next t) : RowKeeps i s t := by
  cases i with
  | rd _ | rxTrunc _ | rxBadsum _ _ | rxAck _ | rxData _ _ | txDataFrame | txAckFrame => cases hi
  | softReset => exact absurd rfl hreset
  | wrCtrl v =>
    simp only [exec, execWrCtrl] at h
    split_ifs at h <;> cases h
    · obtain ⟨hsetup, hheld⟩ := abortSend_rowKeeps (.wrCtrl v)
        { s with regs := { s.regs with ctrl := v &&& 0x07#8 }, ack := { s.ack with pend := false } }
      exact ⟨hsetup, hheld⟩
    · exact .of_eq rfl rfl
  | wrTxBuf idx v =>
    simp only [exec, execWrTxBuf] at h
    split_ifs at h
    · cases h
      exact .of_eq rfl rfl
    · exact txLocked_rowKeeps rfl h
  | wrTxMcs _ | wrTxDest _ | wrTxLen _ =>
    simp only [exec, execWrTxMcs, execWrTxDest, execWrTxLen] at h
    exact txLocked_rowKeeps rfl h
  | wrNodeAddr v =>
    simp only [exec, execWrNodeAddr] at h
    split_ifs at h <;> cases h <;> exact .of_eq rfl rfl
  | send =>
    simp only [exec, execSend] at h
    split_ifs at h <;> cases h <;> exact .of_eq rfl rfl
  | abort =>
    cases h
    exact abortSend_rowKeeps .abort s
  | rxRelease =>
    simp only [exec, execRxRelease] at h
    split_ifs at h <;> cases h <;> exact ⟨fun _ => rfl, fun hne => absurd rfl hne⟩
  | rxAccept =>
    simp only [exec, execRxAccept] at h
    split_ifs at h <;> cases h <;> exact ⟨fun _ => rfl, fun _ hne => absurd rfl hne⟩
  | wrStatus _ | wrIrqEn _ | wrAckTimeoutLo _ | wrAckTimeoutHi _ | wrFrameTimeLo _ | wrFrameTimeHi _
  | wrCntTxData _ | wrCntTxAck _ | wrCntRxDeliv _ | wrCntRxCksum _ | wrCntRxTrunc _ | wrCntRxFilt _
  | wrCntRxOverrun _ | wrCntTimeout _ | wrCntRxAck _ | nop | cmdIllegal _ | wrIgnored _ _ =>
    cases h
    exact .of_eq rfl rfl

/-! ### The storages a host write keeps -/

/-- A host write but SOFT_RESET leaves both buffers and their stamps alone, or writes one byte of TX_BUF while the
sender is Idle (R654). -/
theorem HostWrote.buffers {i : Instr} {s t : State} (hw : HostWrote i s t) (hreset : i ≠ .softReset) :
    (t.mem = s.mem ∧ t.epoch = s.epoch ∧ t.rxEpoch = s.rxEpoch) ∨
      ∃ idx v : Byte, s.snd.st = .idle ∧ t = setTxBuf s idx.toNat v := by
  have habort : ∀ u : State, (abortSend u).mem = u.mem ∧ (abortSend u).epoch = u.epoch ∧
      (abortSend u).rxEpoch = u.rxEpoch := by
    intro u
    rcases abortSend_cases u with ⟨h, -⟩ | ⟨h, -⟩ | ⟨h, -⟩ <;> rw [h] <;> exact ⟨rfl, rfl, rfl⟩
  cases hw with
  | reset => exact absurd rfl hreset
  | buffer idx v _ hst _ => exact .inr ⟨idx, v, hst, rfl⟩
  | disabled => exact .inl (habort _)
  | aborted => exact .inl (habort s)
  | plain _ _ _ hp =>
    rw [hp.frame]
    exact .inl ⟨rfl, rfl, rfl⟩
  | stored | started => exact .inl ⟨rfl, rfl, rfl⟩

/-- No host write but SOFT_RESET touches RX_BUF (R651). -/
theorem HostWrote.rxBufByte {i : Instr} {s t : State} (hw : HostWrote i s t) (hreset : i ≠ .softReset)
    (j : Nat) : t.rxBufByte j = s.rxBufByte j := by
  rcases hw.buffers hreset with ⟨hmem, -, hepoch⟩ | ⟨idx, v, -, rfl⟩
  · exact rxBufByte_congr hmem hepoch j
  · exact setTxBuf_rxBufByte s idx v j

/-- TX_BUF is locked unless the sender is Idle (R213, R654). -/
theorem HostWrote.txBufByte {i : Instr} {s t : State} (hw : HostWrote i s t) (hreset : i ≠ .softReset)
    (hst : s.snd.st ≠ .idle) (j : Nat) : t.txBufByte j = s.txBufByte j := by
  rcases hw.buffers hreset with ⟨hmem, hepoch, -⟩ | ⟨_, _, hidle, -⟩
  · exact txBufByte_congr hmem hepoch j
  · exact absurd hidle hst

end Sys2Proof.Machine
end

section
/-! ## The drop of a data frame and the frame that is held (R214, R553, R554) -/

namespace Sys2Proof.Machine

/-! ### The first cause (R553) -/

theorem dataDrop_destMismatch {h : Header} {p : List Byte} {s : State} (hdest : h.dest ≠ s.regs.nodeAddr) :
    s.dataDrop h p = some .destMismatch := by
  simp [State.dataDrop, checkDest, hdest]

theorem dataDrop_oversize {h : Header} {p : List Byte} {s : State} (hdest : h.dest = s.regs.nodeAddr)
    (hlen : 255 < p.length) : s.dataDrop h p = some .oversize := by
  simp [State.dataDrop, checkDest, Config.maxPayload, hdest, hlen]

theorem dataDrop_lengthMismatch {h : Header} {p : List Byte} {s : State} (hdest : h.dest = s.regs.nodeAddr)
    (hlen : p.length ≤ 255) (hstrict : s.strictLen = true) (hne : h.len.toNat ≠ p.length) :
    s.dataDrop h p = some .lengthMismatch := by
  simp [State.dataDrop, checkDest, Config.maxPayload, hdest, Nat.not_lt.2 hlen, hstrict, hne]

theorem dataDrop_rxOverrun {h : Header} {p : List Byte} {s : State} (hdest : h.dest = s.regs.nodeAddr)
    (hlen : p.length ≤ 255) (hmatch : s.strictLen = true → h.len.toNat = p.length)
    (hroom : s.regs.rxValid = true ∨ (s.autoAck = true ∧ s.ack.pend = true)) :
    s.dataDrop h p = some .rxOverrun := by
  have hstrict : ¬(s.strictLen = true ∧ h.len.toNat ≠ p.length) := fun hs => hs.2 (hmatch hs.1)
  simp [State.dataDrop, checkDest, Config.maxPayload, hdest, Nat.not_lt.2 hlen, hstrict, hroom]

/-- RX_DATA with a cause to drop it is DROP of that cause (R553, R554). -/
theorem exec_rxData_of_drop {h : Header} {p : List Byte} {s : State} {c : DropCause} (hen : s.enable = true)
    (hdrop : s.dataDrop h p = some c) : exec (.rxData h p) s = .next (drop c (noMatch s)) := by
  have hdrop' : (noMatch s).dataDrop h p = some c := hdrop
  simp only [exec, execRxData, whenTaking, hen, if_true, receiveData, hdrop']

/-! ### The held frame, phase by phase (R214) -/

/-- In t the same frame is held as in s: its registers and RX_BUF. -/
structure HoldsSame (s t : State) : Prop where
  regs : t.regs.heldFrame = s.regs.heldFrame
  buf : ∀ j, t.rxBufByte j = s.rxBufByte j

namespace HoldsSame

theorem of_eq {s t : State} (hregs : t.regs.heldFrame = s.regs.heldFrame) (hmem : t.mem = s.mem)
    (hepoch : t.rxEpoch = s.rxEpoch) : HoldsSame s t := ⟨hregs, rxBufByte_congr hmem hepoch⟩

theorem trans {s t u : State} (h1 : HoldsSame s t) (h2 : HoldsSame t u) : HoldsSame s u :=
  ⟨h2.regs.trans h1.regs, fun j => (h2.buf j).trans (h1.buf j)⟩

theorem rxValid {s t : State} (h : HoldsSame s t) : t.regs.rxValid = s.regs.rxValid :=
  congrArg Prod.fst h.regs

end HoldsSame

theorem transportPhase_holdsSame (s : State) : HoldsSame s (transportPhase s) := by
  rcases transportPhase_cases s with h | ⟨h, -⟩ | ⟨h, -⟩ <;> rw [h] <;> exact .of_eq rfl rfl rfl

/-- While a frame is held every completed frame is dropped or is an ack (R553: RX_OVERRUN at the latest). -/
theorem exec_completedFrame_holdsSame {s t : State} (hen : s.enable = true) (hheld : s.regs.rxValid = true)
    (h : exec s.completedFrame s = .next t) : HoldsSame s t := by
  unfold State.completedFrame at h
  simp only at h
  split_ifs at h <;>
    simp only [exec, execRxTrunc, execRxBadsum, execRxAck, execRxData, whenTaking, hen, if_true] at h <;>
    cases h
  · exact .of_eq rfl rfl rfl
  · exact .of_eq rfl rfl rfl
  · exact .of_eq rfl rfl rfl
  · rcases receiveData_cases s.asm.hdr (s.assembledPayload (s.asm.n.toNat - 6)) (noMatch s) with
      ⟨c, heq, -⟩ | ⟨-, hnone⟩
    · rw [heq]
      exact .of_eq rfl rfl rfl
    · obtain ⟨-, -, -, hfree, -⟩ := (dataDrop_eq_none_iff _ _ _).1 hnone
      simp [hheld] at hfree

theorem intake_holdsSame (s : State) : HoldsSame s (intake s).1 := by
  rw [intake_keeps]
  exact .of_eq rfl rfl rfl

theorem receivePhase_holdsSame {s t : State} (hheld : s.regs.rxValid = true)
    (h : receivePhase s = .next t) : HoldsSame s t := by
  have h1 := intake_holdsSame s
  cases hin : intake s with
  | mk s1 i? =>
    rw [hin] at h1
    cases i? with
    | none =>
      simp only [receivePhase, hin] at h
      cases h
      exact h1
    | some i =>
      obtain ⟨hen, -, -, -, hs1, rfl⟩ := intake_completes hin
      simp only [receivePhase, hin] at h
      obtain ⟨u, hexec, hclose⟩ := (andThen_eq_next_iff _ _ t).1 h
      cases hclose
      have h2 : HoldsSame s1 u :=
        exec_completedFrame_holdsSame (by rw [hs1]; exact hen) (h1.rxValid.trans hheld) hexec
      exact (h1.trans h2).trans (.of_eq rfl rfl rfl)

theorem beforeWrite_holdsSame (s : State) : HoldsSame s (beforeWrite s) := by
  obtain ⟨_, _, _, _, _, h1⟩ := transmit_frame s
  obtain ⟨_, _, _, _, _, h2⟩ := senderPhase_frame (loadGranted (handshake s))
  rw [beforeWrite, h2, h1]
  exact .of_eq rfl rfl rfl

/-- Of the host's words only RX_RELEASE, RX_ACCEPT and SOFT_RESET touch the held frame (R214). -/
theorem hostPhase_holdsSame {i? : Option Instr} {s t : State}
    (hi : ∀ i, i? = some i → i.isHostWrite = true) (hrelease : i? ≠ some .rxRelease)
    (haccept : i? ≠ some .rxAccept) (hreset : i? ≠ some .softReset) (h : runOpt i? s = .next t) :
    HoldsSame s t := by
  cases i? with
  | none =>
    cases h
    exact .of_eq rfl rfl rfl
  | some i =>
    have hwrite := hi i rfl
    have hsoft : i ≠ .softReset := fun heq => hreset (congrArg some heq)
    have hkeeps := exec_rowKeeps hwrite hsoft h
    exact ⟨hkeeps.held (fun heq => hrelease (congrArg some heq)) (fun heq => haccept (congrArg some heq)),
      (exec_hostWrite hwrite h).rxBufByte hsoft⟩

/-- R214: a step without a reset, a release or an accept keeps the held frame whole. -/
theorem step_holdsSame {s t : State} (hheld : s.regs.rxValid = true) (hrst : s.now.rst = false)
    (hrelease : s.hostWrite? ≠ some .rxRelease) (haccept : s.hostWrite? ≠ some .rxAccept)
    (hreset : s.hostWrite? ≠ some .softReset) (h : step s = .next t) : HoldsSame s t := by
  rcases step_cases h with ⟨htrue, -⟩ | ⟨s3, s6, hrecv, hhost, rfl⟩
  · simp [hrst] at htrue
  · have h1 : HoldsSame s (startCycle s) := .of_eq rfl rfl rfl
    have h2 : HoldsSame s (transportPhase (startCycle s)) := h1.trans (transportPhase_holdsSame _)
    have h3 : HoldsSame s s3 := h2.trans (receivePhase_holdsSame (h2.rxValid.trans hheld) hrecv)
    have h5 : HoldsSame s (beforeWrite s3) := h3.trans (beforeWrite_holdsSame s3)
    have h6 : HoldsSame s s6 :=
      h5.trans (hostPhase_holdsSame (fun _ => hostWrite?_isHostWrite) hrelease haccept hreset hhost)
    exact h6.trans (.of_eq rfl rfl rfl)

/-- Settles O28: each cause once the earlier ones fail, and the held frame through the phases of a step. -/
theorem dataFrameIsDroppedForItsFirstCause : Obligations.DataFrameIsDroppedForItsFirstCause := by
  unfold Obligations.DataFrameIsDroppedForItsFirstCause
  refine ⟨fun h p s hen => ⟨fun hdest => ?_, fun hdest hlen => ?_, fun hdest hlen hstrict hne => ?_,
    fun hdest hlen hmatch hroom => ?_⟩, fun s t hheld hrst hrelease haccept hreset hstep => ?_⟩
  · exact exec_rxData_of_drop hen (dataDrop_destMismatch hdest)
  · exact exec_rxData_of_drop hen (dataDrop_oversize hdest hlen)
  · exact exec_rxData_of_drop hen (dataDrop_lengthMismatch hdest hlen hstrict hne)
  · exact exec_rxData_of_drop hen (dataDrop_rxOverrun hdest hlen hmatch hroom)
  · obtain ⟨hregs, hbuf⟩ := step_holdsSame hheld hrst hrelease haccept hreset hstep
    obtain ⟨hvalid, hacked, hlenmm, hhdr, hcount⟩ : t.regs.rxValid = s.regs.rxValid ∧
        t.regs.rxAcked = s.regs.rxAcked ∧ t.regs.rxLenmm = s.regs.rxLenmm ∧
        t.regs.rxHdr = s.regs.rxHdr ∧ t.regs.rxCount = s.regs.rxCount := by
      simpa [Regs.heldFrame] using hregs
    refine ⟨hvalid.trans hheld, hacked, hlenmm, hhdr, hcount, fun j hj => ?_⟩
    rw [read_rxBuf t hj, read_rxBuf s hj, hbuf j]

end Sys2Proof.Machine
end

section
/-! ## The transmit invariant (R462, R518, R606), phase by phase -/

namespace Sys2Proof.Machine

/-! ### The checksum over TX_BUF (R451, R502) -/

theorem sumBytes_append (p q : List Byte) : sumBytes (p ++ q) = sumBytes p + sumBytes q := by
  induction p with
  | nil => simp [sumBytes]
  | cons b rest ih => simp [sumBytes, ih, Nat.add_assoc]

/-- A payload byte more adds that byte to the checksum (R451). -/
theorem checksum_append_singleton (m l s d a : Byte) (p : List Byte) (b : Byte) :
    checksum m l s d a (p ++ [b]) = checksum m l s d a p + b := by
  simp only [checksum, sumBytes_append, sumBytes, Nat.add_zero, ← Nat.add_assoc, BitVec.ofNat_add,
    BitVec.ofNat_toNat, BitVec.setWidth_eq]

theorem sendChecksum_succ (s : State) (n : Nat) : s.sendChecksum (n + 1) = s.sendChecksum n + s.txBufByte n := by
  simp only [State.sendChecksum, State.txPayload, List.range_succ, List.map_append, List.map_singleton,
    checksum_append_singleton]

/-- The checksum of the send depends on the latched header and the bytes of TX_BUF summed. -/
theorem sendChecksum_congr {s t : State} (hhdr : t.snd.hdrL = s.snd.hdrL)
    (hbuf : ∀ i, i < 255 → t.txBufByte i = s.txBufByte i) {n : Nat} (hn : n ≤ 255) :
    t.sendChecksum n = s.sendChecksum n := by
  have hpay : t.txPayload n = s.txPayload n :=
    List.map_congr_left fun i hi => hbuf i (by have := List.mem_range.1 hi; omega)
  rw [State.sendChecksum, State.sendChecksum, hhdr, hpay]

/-! ### The two parts of the invariant -/

/-- The part of `TransmitInv` about the checksum pass (R502). -/
structure PassInv (s : State) : Prop where
  running : s.snd.st = .sending → s.snd.frameReady = false →
    s.snd.prepIdx.toNat < s.snd.hdrL.len.toNat ∧ s.snd.csum = s.sendChecksum s.snd.prepIdx.toNat
  done : s.snd.st.active = true → s.snd.frameReady = true →
    1 ≤ s.snd.hdrL.len.toNat ∧ s.snd.csum = s.sendChecksum s.snd.hdrL.len.toNat

/-- The part of `TransmitInv` about the engine (R604 to R606). -/
structure PortInv (s : State) : Prop where
  data : s.dataOnPort = true → s.eng.hdr = s.dataHeader ∧ s.eng.plen = s.snd.hdrL.len
  ack : s.eng.busy = true → s.eng.kind = .ack →
    s.eng.plen = 0x03#8 ∧ s.eng.hdr.len = 0x03#8 ∧ validate ⟨s.eng.hdr, Config.ackSentinel⟩ = true
  idx : s.eng.busy = true → s.eng.idx.toNat ≤ s.eng.plen.toNat + 5

namespace TransmitInv

theorem passInv {s : State} (h : TransmitInv s) : PassInv s := ⟨h.passRunning, h.passDone⟩

theorem portInv {s : State} (h : TransmitInv s) : PortInv s := ⟨h.dataLoaded, h.ackLoaded, h.idxInFrame⟩

theorem of_parts {s : State} (hsession : SessionInv s) (hpass : PassInv s) (hport : PortInv s) :
    TransmitInv s where
  toSessionInv := hsession
  passRunning := hpass.running
  passDone := hpass.done
  dataLoaded := hport.data
  ackLoaded := hport.ack
  idxInFrame := hport.idx

end TransmitInv

namespace PassInv

/-- With no send active there is no pass. -/
theorem of_inactive {s : State} (hst : s.snd.st.active = false) : PassInv s where
  running hs := absurd hs (SenderState.ne_of_inactive hst rfl)
  done hs := by simp [hst] at hs

/-- The pass is that of the sender and of the bytes of TX_BUF. -/
theorem congr {s t : State} (h : PassInv s) (hsnd : t.snd = s.snd)
    (hbuf : ∀ i, i < 255 → t.txBufByte i = s.txBufByte i) : PassInv t := by
  have hsum : ∀ b : Byte, b.toNat ≤ s.snd.hdrL.len.toNat → t.sendChecksum b.toNat = s.sendChecksum b.toNat :=
    fun b hb => sendChecksum_congr (by rw [hsnd]) hbuf (by omega)
  constructor
  · rw [hsnd]
    intro hst hready
    obtain ⟨hlt, hcsum⟩ := h.running hst hready
    exact ⟨hlt, by rw [hsum _ hlt.le]; exact hcsum⟩
  · rw [hsnd]
    intro hst hready
    obtain ⟨hpos, hcsum⟩ := h.done hst hready
    exact ⟨hpos, by rw [hsum _ le_rfl]; exact hcsum⟩

end PassInv

namespace PortInv

/-- An idle port holds no frame. -/
theorem of_idle {s : State} (hbusy : s.eng.busy = false) : PortInv s := by
  constructor <;> simp [State.dataOnPort, hbusy]

/-- A data frame on the port is compared with the latched header and its checksum, an ack with nothing. -/
theorem congr {s t : State} (h : PortInv s) (heng : t.eng = s.eng)
    (hsnd : s.dataOnPort = true → t.snd.hdrL = s.snd.hdrL ∧ t.snd.csum = s.snd.csum) : PortInv t where
  data := by
    simp only [State.dataOnPort, State.dataHeader, heng]
    intro hport
    obtain ⟨hhdr, hcsum⟩ := hsnd hport
    rw [hhdr, hcsum]
    exact h.data hport
  ack := by rw [heng]; exact h.ack
  idx := by rw [heng]; exact h.idx

end PortInv

/-- A phase that leaves the sender, the engine and TX_BUF alone keeps the transmit invariant. -/
theorem TransmitInv.congr {s t : State} (h : TransmitInv s) (hsession : SessionInv t) (hsnd : t.snd = s.snd)
    (heng : t.eng = s.eng) (hbuf : ∀ i, i < 255 → t.txBufByte i = s.txBufByte i) : TransmitInv t :=
  .of_parts hsession (h.passInv.congr hsnd hbuf) (h.portInv.congr heng fun _ => by rw [hsnd]; exact ⟨rfl, rfl⟩)

/-! ### P2 and P3 -/

theorem abandonPort_busy (s : State) : (abandonPort s).eng.busy = false := by
  cases h : s.eng.busy <;> simp [abandonPort, h]

theorem transportPhase_transmit {s : State} (h : TransmitInv s) : TransmitInv (transportPhase s) := by
  have hsession : SessionInv (transportPhase s) := transportPhase_session h.toSessionInv
  rcases transportPhase_cases s with heq | ⟨heq, hst⟩ | ⟨heq, -⟩ <;> rw [heq] at hsession ⊢
  · exact h
  · exact .of_parts hsession (.of_inactive hst) (.of_idle (abandonPort_busy s))
  · exact .of_parts hsession (.of_inactive rfl) (.of_idle (abandonPort_busy s))

/-- No class of inbound frame writes TX_BUF (R562). -/
theorem FrameActed.txBufByte {s u : State} (hu : FrameActed s u) {i : Nat} (hi : i < 255) :
    u.txBufByte i = s.txBufByte i := by
  cases hu with
  | none | dropped _ | acked _ => rfl
  | delivered h p _ => exact deliver_txBufByte h p (noMatch s) hi

theorem FrameActed.transmit {s u : State} (hu : FrameActed s u) (h : TransmitInv s) : TransmitInv u :=
  h.congr (hu.session h.toSessionInv) hu.receiverOnly.snd hu.receiverOnly.eng fun _ => hu.txBufByte

/-! ### P4 -/

/-- The handshake moves on inside the frame, or ends it (R602). -/
theorem handshake_port {s : State} (h : PortInv s) : PortInv (handshake s) := by
  rcases handshake_cases s with ⟨heq, -⟩ | ⟨heq, hbusy, hlast⟩ | ⟨heq, -⟩ <;> rw [heq]
  · exact h
  · have hin : s.eng.idx.toNat < s.eng.plen.toNat + 5 :=
      lt_of_le_of_ne (h.idx hbusy) (by simpa [State.engineAtLast] using hlast)
    have hidx : (s.eng.idx + 1).toNat = s.eng.idx.toNat + 1 := by bv_omega
    refine ⟨h.data, h.ack, fun _ => ?_⟩
    simp only [hidx]
    omega
  · exact .of_idle (by rw [finishFrame_eng])

/-- LOAD_ACK builds a valid ack (R604), LOAD_DATA the frame of the latched header (R605). -/
theorem loadGranted_port {s : State} (h : PortInv s) : PortInv (loadGranted s) := by
  rcases loadGranted_cases s with heq | ⟨heq, -⟩ | ⟨heq, -⟩ <;> rw [heq]
  · exact h
  · refine ⟨by simp [loadAck_dataOnPort], fun _ _ => ⟨rfl, rfl, ?_⟩, fun _ => Nat.zero_le _⟩
    simp [validate, State.ackHeader]
  · exact ⟨fun _ => ⟨rfl, rfl⟩, fun _ hkind => (by cases hkind), fun _ => Nat.zero_le _⟩

/-- P4 leaves the checksum pass alone. -/
theorem transmit_pass {s : State} (h : PassInv s) : PassInv (loadGranted (handshake s)) := by
  obtain ⟨_, _, _, _, _, heq⟩ := transmit_frame s
  rw [heq]
  exact ⟨h.running, h.done⟩

/-- While the checksum pass runs P4 leaves no data frame on the port: the pass is over before the first load. -/
theorem transmit_passOffPort {s : State} (h : SessionInv s) (hdone : s.cyc.txDone = none)
    (hst : (loadGranted (handshake s)).snd.st = .sending)
    (hready : (loadGranted (handshake s)).snd.frameReady = false) :
    (loadGranted (handshake s)).dataOnPort = false := by
  rcases handshake_session h hdone with ⟨hs, -⟩ | hended
  · have h4 : SessionInv (loadGranted (handshake s)) := loadGranted_session hs
    refine h4.port_eq_false fun hstream => ?_
    simp [h4.startedReady hst hstream.2] at hready
  · exact hended.loadGranted.port

/-! ### P5 -/

/-- The checksum pass takes in one byte of TX_BUF more, and ends at the latched length (R502). -/
theorem checksumPass_pass {s : State} (h : PassInv s) (hst : s.snd.st = .sending)
    (hready : s.snd.frameReady = false) : PassInv (checksumPass s) := by
  obtain ⟨hlt, hcsum⟩ := h.running hst hready
  have hidx : (s.snd.prepIdx + 1#8).toNat = s.snd.prepIdx.toNat + 1 := by bv_omega
  have hsum : (checksumPass s).snd.csum = (checksumPass s).sendChecksum (s.snd.prepIdx + 1#8).toNat := by
    calc (checksumPass s).snd.csum = s.sendChecksum s.snd.prepIdx.toNat + s.txBufByte s.snd.prepIdx.toNat := by
          rw [← hcsum]; rfl
      _ = s.sendChecksum (s.snd.prepIdx.toNat + 1) := (sendChecksum_succ s _).symm
      _ = (checksumPass s).sendChecksum (s.snd.prepIdx + 1#8).toNat := by rw [hidx]; rfl
  constructor
  · intro _ hrun
    have hne : s.snd.prepIdx + 1#8 ≠ s.snd.hdrL.len := by simpa [checksumPass] using hrun
    refine ⟨?_, hsum⟩
    change (s.snd.prepIdx + 1#8).toNat < s.snd.hdrL.len.toNat
    bv_omega
  · intro _ hend
    have heq : s.snd.prepIdx + 1#8 = s.snd.hdrL.len := by simpa [checksumPass] using hend
    refine ⟨?_, ?_⟩
    · change 1 ≤ s.snd.hdrL.len.toNat
      omega
    · rw [hsum, heq]
      rfl

/-- P5 keeps the pass; a retry starts with the pass over (R502, R510). -/
theorem senderPhase_pass {s : State} (h : PassInv s)
    (hretry : s.snd.st = .backingOff → s.snd.frameReady = true) : PassInv (senderPhase s) := by
  rcases senderPhase_cases s with heq | ⟨heq, hst, hready⟩ | ⟨heq, -⟩ | ⟨heq, hst, -⟩ | ⟨heq, -⟩ |
    ⟨e, heq, hst, -⟩ | ⟨e, heq, hst, -⟩ | ⟨heq, -⟩ | ⟨heq, hst, -⟩ | ⟨heq, hst⟩ <;> rw [heq]
  · exact h
  · exact checksumPass_pass h hst hready
  · exact .of_inactive rfl
  · exact ⟨by simp, fun _ => h.done (by rw [hst]; rfl)⟩
  · exact .of_inactive rfl
  · exact ⟨h.running, h.done⟩
  · exact ⟨by simp [timeout], fun _ => h.done (by rw [hst]; rfl)⟩
  · exact .of_inactive rfl
  · exact ⟨fun _ hrun => by simp [hretry hst] at hrun, fun _ => h.done (by rw [hst]; rfl)⟩
  · exact ⟨h.running, h.done⟩

/-- P5 keeps the latched header, and its checksum unless the pass runs. -/
theorem senderPhase_latched (s : State) : (senderPhase s).snd.hdrL = s.snd.hdrL ∧
    ((senderPhase s).snd.csum = s.snd.csum ∨ (s.snd.st = .sending ∧ s.snd.frameReady = false)) := by
  rcases senderPhase_cases s with heq | ⟨heq, hst, hready⟩ | ⟨heq, -⟩ | ⟨heq, -⟩ | ⟨heq, -⟩ | ⟨e, heq, -⟩ |
    ⟨e, heq, -⟩ | ⟨heq, -⟩ | ⟨heq, -⟩ | ⟨heq, -⟩ <;> rw [heq]
  case inr.inl => exact ⟨rfl, .inr ⟨hst, hready⟩⟩
  all_goals exact ⟨rfl, .inl rfl⟩

theorem senderPhase_port {s : State} (h : PortInv s)
    (hoff : s.snd.st = .sending → s.snd.frameReady = false → s.dataOnPort = false) :
    PortInv (senderPhase s) := by
  obtain ⟨_, _, _, _, _, hframe⟩ := senderPhase_frame s
  obtain ⟨hhdr, hcsum⟩ := senderPhase_latched s
  refine h.congr (by rw [hframe]) fun hport => ⟨hhdr, hcsum.resolve_right fun hpass => ?_⟩
  simp [hoff hpass.1 hpass.2] at hport

theorem beforeWrite_transmit {s : State} (hdone : s.cyc.txDone = none) (h : TransmitInv s) :
    TransmitInv (beforeWrite s) := by
  refine .of_parts (beforeWrite_session hdone h.toSessionInv) ?_ ?_
  · refine senderPhase_pass (transmit_pass h.passInv) ?_
    obtain ⟨_, _, _, _, _, heq⟩ := transmit_frame s
    rw [heq]
    exact fun hst => (h.backoffReady hst).1
  · exact senderPhase_port (loadGranted_port (handshake_port h.portInv))
      (transmit_passOffPort h.toSessionInv hdone)

/-! ### P6 -/

/-- A SEND that starts a send found the transport up and TX_LEN not 0 (R501). -/
theorem exec_send_started {s : State} (hst : s.snd.st = .idle) (h : exec .send s = .next (startSend s)) :
    s.now.chanErr = false ∧ s.regs.txLen ≠ 0x00#8 := by
  have hleaves : ∀ t : State, exec .send s = .next t → t.snd.st ≠ .idle := by
    intro t ht hidle
    rw [h] at ht
    cases ht
    cases hidle
  constructor
  · by_contra herr
    exact hleaves _ (if_pos (by simpa using herr)) hst
  · intro hlen
    simp only [exec, execSend] at hleaves
    split_ifs at hleaves <;> exact hleaves _ rfl hst

/-- The pass of a new send begins at byte 0 with the checksum of the header (R501, R502). -/
theorem startSend_pass {s : State} (hlen : s.regs.txLen ≠ 0x00#8) : PassInv (startSend s) := by
  refine ⟨fun _ _ => ⟨?_, rfl⟩, by simp [startSend]⟩
  change 0 < s.regs.txLen.toNat
  bv_omega

theorem abortSend_pass {s : State} (h : PassInv s) : PassInv (abortSend s) := by
  rcases abortSend_cases s with ⟨heq, -⟩ | ⟨heq, -⟩ | ⟨heq, -⟩ <;> rw [heq]
  · exact h
  · exact ⟨h.running, h.done⟩
  · exact .of_inactive rfl

/-- An abort lets the frame on the port run on (R512). -/
theorem abortSend_port {s : State} (h : PortInv s) : PortInv (abortSend s) := by
  rcases abortSend_cases s with ⟨heq, -⟩ | ⟨heq, -⟩ | ⟨heq, -⟩ <;> rw [heq]
  · exact h
  · exact ⟨h.data, h.ack, h.idx⟩
  · exact ⟨h.data, h.ack, h.idx⟩

theorem exec_hostWrite_transmit {i : Instr} {s t : State} (hi : i.isHostWrite = true)
    (h : exec i s = .next t) (hs : TransmitInv s) : TransmitInv t := by
  have hw : HostWrote i s t := exec_hostWrite hi h
  have hsession : SessionInv t := hw.session hs.toSessionInv
  cases hw with
  | reset => exact hsession.transmitInv_of_idle rfl rfl
  | stored => exact hs.congr hsession rfl rfl fun _ _ => rfl
  | disabled =>
    exact .of_parts hsession (abortSend_pass (hs.passInv.congr rfl fun _ _ => rfl))
      (abortSend_port (hs.portInv.congr rfl fun _ => ⟨rfl, rfl⟩))
  | buffer idx v _ hst _ =>
    exact .of_parts hsession (.of_inactive (congrArg SenderState.active hst))
      (hs.portInv.congr rfl fun _ => ⟨rfl, rfl⟩)
  | started _ _ hst =>
    refine .of_parts hsession (startSend_pass (exec_send_started hst h).2)
      (hs.portInv.congr rfl fun hport => ?_)
    simp [hs.port_eq_false (by simp [hst])] at hport
  | aborted => exact .of_parts hsession (abortSend_pass hs.passInv) (abortSend_port hs.portInv)
  | plain _ _ _ hp =>
    have hframe := hp.frame
    refine hs.congr hsession (by rw [hframe]) (by rw [hframe]) fun i _ => ?_
    exact txBufByte_congr (by rw [hframe]) (by rw [hframe]) i

theorem hostPhase_transmit {s0 s t : State} (h : runOpt s0.hostWrite? s = .next t) (hs : TransmitInv s) :
    TransmitInv t := by
  cases hw : s0.hostWrite? with
  | none =>
    rw [hw] at h
    cases h
    exact hs
  | some i =>
    rw [hw] at h
    exact exec_hostWrite_transmit (hostWrite?_isHostWrite hw) h hs

/-! ### The step -/

theorem receivePhase_transmit {s t : State} (h : receivePhase s = .next t) (hs : TransmitInv s) :
    TransmitInv t := by
  obtain ⟨a, u, b, heq, ha, hu, hb⟩ := receivePhase_cases s
  obtain rfl : { u with asm := b } = t := by simpa [heq] using h
  have hasm : ∀ (v : State) (c : Assembler), AsmAfter v.asm c → TransmitInv v → TransmitInv { v with asm := c } :=
    fun v c hc hv => hv.congr (sessionInv_keptByPhases.intake v c hc hv.toSessionInv) rfl rfl fun _ _ => rfl
  exact hasm u b hb (hu.transmit (hasm s a ha hs))

theorem step_transmit {s t : State} (hs : TransmitInv s) (h : step s = .next t) : TransmitInv t := by
  have hends : ∀ u : State, TransmitInv u → TransmitInv (endCycle u) := fun u hu =>
    hu.congr (sessionInv_keptByPhases.ends u hu.toSessionInv) rfl rfl fun _ _ => rfl
  rcases step_cases h with ⟨-, rfl⟩ | ⟨s3, s6, hrecv, hhost, rfl⟩
  · exact hends _ ((hwReset_session _).transmitInv_of_idle rfl rfl)
  · have h1 : TransmitInv (startCycle s) :=
      hs.congr (sessionInv_keptByPhases.starts s hs.toSessionInv) rfl rfl fun _ _ => rfl
    have h3 : TransmitInv s3 := receivePhase_transmit hrecv (transportPhase_transmit h1)
    have hdone : s3.cyc.txDone = none := by
      rw [(receivePhase_receiverOnly hrecv).txDone, transportPhase_txDone, startCycle_cyc]
      rfl
    exact hends _ (hostPhase_transmit hhost (beforeWrite_transmit hdone h3))

end Sys2Proof.Machine
end

section
/-! ## One send keeps its frame (R213, R518) -/

namespace Sys2Proof.Machine

/-- In t the send of s would build the same frame: the latched header, TX_BUF, the TX registers and SEQ. -/
structure SameFrame (s t : State) : Prop where
  hdrL : t.snd.hdrL = s.snd.hdrL
  buf : ∀ i, i < 255 → t.txBufByte i = s.txBufByte i
  setup : t.regs.txSetup = s.regs.txSetup
  seq : t.regs.seq = s.regs.seq

namespace SameFrame

theorem of_eq {s t : State} (hhdr : t.snd.hdrL = s.snd.hdrL) (hmem : t.mem = s.mem)
    (hepoch : t.epoch = s.epoch) (hsetup : t.regs.txSetup = s.regs.txSetup) (hseq : t.regs.seq = s.regs.seq) :
    SameFrame s t := ⟨hhdr, fun i _ => txBufByte_congr hmem hepoch i, hsetup, hseq⟩

theorem trans {s t u : State} (h1 : SameFrame s t) (h2 : SameFrame t u) : SameFrame s u :=
  ⟨h2.hdrL.trans h1.hdrL, fun i hi => (h2.buf i hi).trans (h1.buf i hi), h2.setup.trans h1.setup,
    h2.seq.trans h1.seq⟩

end SameFrame

/-! ### P2 to P4 -/

theorem FrameActed.sameFrame {s u : State} (hu : FrameActed s u) : SameFrame s u where
  hdrL := by rw [hu.receiverOnly.snd]
  buf _ := hu.txBufByte
  setup := by
    cases hu with
    | none | dropped _ | acked _ => rfl
    | delivered h p _ =>
      rw [deliver_regs]
      rfl
  seq := hu.receiverOnly.seq

theorem FrameActed.now_eq {s u : State} (hu : FrameActed s u) : u.now = s.now := by
  cases hu with
  | none | dropped _ | acked _ => rfl
  | delivered h p _ => exact now_congr (deliver_inputs h p _) (deliver_cycle h p _)

theorem receivePhase_sameFrame {s t : State} (h : receivePhase s = .next t) :
    SameFrame s t ∧ t.now = s.now := by
  obtain ⟨a, u, b, heq, -, hacted, -⟩ := receivePhase_cases s
  obtain rfl : { u with asm := b } = t := by simpa [heq] using h
  obtain ⟨hhdr, hbuf, hsetup, hseq⟩ := hacted.sameFrame
  exact ⟨⟨hhdr, hbuf, hsetup, hseq⟩, hacted.now_eq⟩

/-- P4 leaves the send as it is but for `started`. -/
theorem transmit_sameFrame (s : State) : SameFrame s (loadGranted (handshake s)) ∧
    (loadGranted (handshake s)).now = s.now ∧ (loadGranted (handshake s)).snd.st = s.snd.st ∧
    (loadGranted (handshake s)).snd.abortPend = s.snd.abortPend := by
  obtain ⟨_, _, _, _, _, heq⟩ := transmit_frame s
  rw [heq]
  exact ⟨.of_eq rfl rfl rfl rfl rfl, rfl, rfl, rfl⟩

/-- A transport error ends an active send in its own cycle (R514); without one P2 does nothing. -/
theorem transportPhase_active {s : State} (hs : s.snd.st.active = true) :
    transportPhase s = s ∨
      (s.now.chanErr = true ∧ (transportPhase s).snd.st = .idle ∧ (transportPhase s).now = s.now) := by
  cases herr : s.now.chanErr with
  | false => exact .inl (transportPhase_quiet s herr)
  | true =>
    rcases transportPhase_cases s with heq | ⟨-, hst⟩ | ⟨heq, -⟩
    · exact .inl heq
    · simp [hst] at hs
    · rw [heq]
      exact .inr ⟨rfl, rfl, rfl⟩

/-! ### P5 -/

/-- What P5 makes of an active send: it goes on with its frame, a pending abort ends it, or an ack delivers it
(R503, R504). -/
theorem senderPhase_active {s : State} (hs : s.snd.st.active = true) :
    ((senderPhase s).snd.st.active = true ∧ SameFrame s (senderPhase s)) ∨
    ((senderPhase s).snd.st = .idle ∧ s.snd.abortPend = true) ∨ (senderPhase s).snd.st = .delivered := by
  rcases senderPhase_cases s with heq | ⟨heq, hst, -⟩ | ⟨heq, -, -, -, hab⟩ | ⟨heq, -⟩ | ⟨heq, -⟩ |
    ⟨e, heq, hst, -⟩ | ⟨e, heq, -⟩ | ⟨heq, hst⟩ | ⟨heq, -⟩ | ⟨heq, hst⟩ <;> rw [heq]
  · exact .inl ⟨hs, .of_eq rfl rfl rfl rfl rfl⟩
  · exact .inl ⟨congrArg SenderState.active hst, .of_eq rfl rfl rfl rfl rfl⟩
  · exact .inr (.inl ⟨rfl, hab⟩)
  · exact .inl ⟨rfl, .of_eq rfl rfl rfl rfl rfl⟩
  · exact .inr (.inr rfl)
  · exact .inl ⟨congrArg SenderState.active hst, .of_eq rfl rfl rfl rfl rfl⟩
  · exact .inl ⟨rfl, .of_eq rfl rfl rfl rfl rfl⟩
  · simp [hst, SenderState.active] at hs
  · exact .inl ⟨rfl, .of_eq rfl rfl rfl rfl rfl⟩
  · exact .inl ⟨congrArg SenderState.active hst, .of_eq rfl rfl rfl rfl rfl⟩

theorem senderPhase_idle {s : State} (hs : s.snd.st = .idle) : senderPhase s = s := by
  simp [senderPhase, hs]

/-- Where the phases before the host's write have left an active send: it goes on with its frame, or it is over
and no SEND can start another in this cycle but after a pending abort. -/
theorem beforeWrite_active {s s3 : State} (hs : s.snd.st.active = true)
    (hrecv : receivePhase (transportPhase (startCycle s)) = .next s3) :
    ((beforeWrite s3).snd.st.active = true ∧ SameFrame s (beforeWrite s3)) ∨
    ((beforeWrite s3).snd.st = .idle ∧ (beforeWrite s3).now.chanErr = true) ∨
    ((beforeWrite s3).snd.st = .idle ∧ s.snd.abortPend = true) ∨ (beforeWrite s3).snd.st = .delivered := by
  obtain ⟨hframe3, hnow3⟩ := receivePhase_sameFrame hrecv
  have hsnd3 : s3.snd = (transportPhase (startCycle s)).snd := (receivePhase_receiverOnly hrecv).snd
  obtain ⟨hframe4, hnow4, hst4, hab4⟩ := transmit_sameFrame s3
  rcases transportPhase_active (s := startCycle s) hs with heq | ⟨herr, hidle, hnow⟩
  · rw [heq] at hframe3 hsnd3
    have hframe1 : SameFrame s (startCycle s) := .of_eq rfl rfl rfl rfl rfl
    have hframe : SameFrame s (loadGranted (handshake s3)) := (hframe1.trans hframe3).trans hframe4
    have hactive : (loadGranted (handshake s3)).snd.st.active = true := by rw [hst4, hsnd3]; exact hs
    rcases senderPhase_active hactive with ⟨h5, hframe5⟩ | ⟨h5, hab⟩ | h5
    · exact .inl ⟨h5, hframe.trans hframe5⟩
    · exact .inr (.inr (.inl ⟨h5, by rw [hab4, hsnd3] at hab; exact hab⟩))
    · exact .inr (.inr (.inr h5))
  · have hidle4 : (loadGranted (handshake s3)).snd.st = .idle := by rw [hst4, hsnd3, hidle]
    rw [beforeWrite, senderPhase_idle hidle4]
    exact .inr (.inl ⟨hidle4, by rw [hnow4, hnow3, hnow]; exact herr⟩)

/-! ### P6 -/

theorem abortSend_hdrL (s : State) : (abortSend s).snd.hdrL = s.snd.hdrL := by
  rcases abortSend_cases s with ⟨h, -⟩ | ⟨h, -⟩ | ⟨h, -⟩ <;> rw [h]
  rfl

/-- Outside Idle no host write but SOFT_RESET latches another header (R501). -/
theorem HostWrote.hdrL {i : Instr} {s t : State} (hw : HostWrote i s t) (hreset : i ≠ .softReset)
    (hst : s.snd.st ≠ .idle) : t.snd.hdrL = s.snd.hdrL := by
  cases hw with
  | reset => exact absurd rfl hreset
  | started _ _ hidle => exact absurd hidle hst
  | disabled => exact abortSend_hdrL _
  | aborted => exact abortSend_hdrL s
  | plain _ _ _ hp => rw [hp.frame]
  | stored | buffer => rfl

/-- A host write during an active send keeps its frame, unless it is a SOFT_RESET (R213). -/
theorem exec_hostWrite_sameFrame {i : Instr} {s t : State} (hi : i.isHostWrite = true)
    (hreset : i ≠ .softReset) (h : exec i s = .next t) (hst : s.snd.st ≠ .idle) : SameFrame s t := by
  have hw : HostWrote i s t := exec_hostWrite hi h
  refine ⟨hw.hdrL hreset hst, fun j _ => hw.txBufByte hreset hst j, (exec_rowKeeps hi hreset h).setup hst, ?_⟩
  exact hw.seq.resolve_right fun hsoft => hreset hsoft.1

theorem abortSend_of_inactive {s : State} (hs : s.snd.st.active = false) : abortSend s = s := by
  rcases abortSend_cases s with ⟨h, -⟩ | ⟨-, hst, -⟩ | ⟨-, hst, -⟩
  · exact h
  · simp [hst, SenderState.active] at hs
  · simp [hst] at hs

theorem disable_of_inactive {s : State} (hs : s.snd.st.active = false) : (disable s).snd = s.snd := by
  have hst : ({ s with ack := { s.ack with pend := false } } : State).snd.st.active = false := hs
  rw [disable_eq, abortSend_of_inactive hst]

/-- Only an accepted SEND makes a send active (R501). -/
theorem HostWrote.activates {i : Instr} {s t : State} (hw : HostWrote i s t)
    (hs : s.snd.st.active = false) (ht : t.snd.st.active = true) :
    i = .send ∧ s.snd.st = .idle ∧ t = startSend s := by
  have hsame : t.snd = s.snd → i = .send ∧ s.snd.st = .idle ∧ t = startSend s := fun hsnd => by
    simp [hsnd, hs] at ht
  cases hw with
  | reset => cases ht
  | started _ _ hst => exact ⟨rfl, hst, rfl⟩
  | stored | buffer => exact hsame rfl
  | disabled => exact hsame (disable_of_inactive hs)
  | aborted => exact hsame (by rw [abortSend_of_inactive hs])
  | plain _ _ _ hp => exact hsame (by rw [hp.frame])

/-- After P6 a send is active only if it was before, or a SEND found the sender Idle and the transport up. -/
theorem hostPhase_activates {s0 s t : State} (h : runOpt s0.hostWrite? s = .next t)
    (hs : s.snd.st.active = false) (ht : t.snd.st.active = true) :
    s0.hostWrite? = some .send ∧ s.snd.st = .idle ∧ s.now.chanErr = false := by
  rcases hostPhase_cases h with rfl | ⟨i, hi, hw⟩
  · simp [hs] at ht
  · obtain ⟨rfl, hst, rfl⟩ := hw.activates hs ht
    rw [hi, runOpt_some] at h
    exact ⟨hi, hst, (exec_send_started hst h).1⟩

theorem hostPhase_sameFrame {s0 s t : State} (h : runOpt s0.hostWrite? s = .next t)
    (hs : s.snd.st.active = true) (ht : t.snd.st.active = true) : SameFrame s t := by
  cases hw : s0.hostWrite? with
  | none =>
    rw [hw] at h
    cases h
    exact .of_eq rfl rfl rfl rfl rfl
  | some i =>
    rw [hw, runOpt_some] at h
    refine exec_hostWrite_sameFrame (hostWrite?_isHostWrite hw) ?_ h ?_
    · rintro rfl
      cases h
      cases ht
    · intro hidle
      simp [hidle, SenderState.active] at hs

/-! ### The step -/

/-- R213, R518: a step that goes on with the same send keeps what its frame is made of. -/
theorem SendContinues.sameFrame {s t : State} (h : SendContinues s t) : SameFrame s t := by
  obtain ⟨hs, ht, hsend, hstep⟩ := h
  rcases step_cases hstep with ⟨-, rfl⟩ | ⟨s3, s6, hrecv, hhost, rfl⟩
  · cases ht
  · have hover : ∀ hst : (beforeWrite s3).snd.st.active = false, s.hostWrite? = some .send ∧
        (beforeWrite s3).snd.st = .idle ∧ (beforeWrite s3).now.chanErr = false :=
      fun hst => hostPhase_activates hhost hst ht
    rcases beforeWrite_active hs hrecv with ⟨h5, hframe⟩ | ⟨hidle, herr⟩ | ⟨hidle, hab⟩ | hdeliv
    · exact (hframe.trans (hostPhase_sameFrame hhost h5 ht)).trans (.of_eq rfl rfl rfl rfl rfl)
    · obtain ⟨-, -, hup⟩ := hover (by rw [hidle]; rfl)
      simp [herr] at hup
    · exact absurd (hover (by rw [hidle]; rfl)).1 (hsend hab)
    · obtain ⟨-, hidle, -⟩ := hover (by rw [hdeliv]; rfl)
      simp [hdeliv] at hidle

/-- Settles O57: the transmit invariant phase by phase, and the frame of one send through a step. -/
theorem everyStepKeepsTheTransmitInvariant : Obligations.EveryStepKeepsTheTransmitInvariant := by
  unfold Obligations.EveryStepKeepsTheTransmitInvariant
  refine ⟨fun _ _ => step_transmit, fun s t hcont => ?_⟩
  obtain ⟨hhdr, hbuf, hsetup, hseq⟩ := hcont.sameFrame
  obtain ⟨hmcs, hdest, hlen⟩ : t.regs.txMcs = s.regs.txMcs ∧ t.regs.txDest = s.regs.txDest ∧
      t.regs.txLen = s.regs.txLen := by
    simpa [Regs.txSetup] using hsetup
  exact ⟨hhdr, hbuf, hmcs, hdest, hlen, hseq⟩

end Sys2Proof.Machine
end

section
/-! ## The rows of the opcode table, taken together -/

namespace Sys2Proof.Laws

theorem rowPattern (i : Instr) : RowPattern.Statement i :=
  match i with
  | .rd a => RowPattern.rd a
  | .wrCtrl v => RowPattern.wrCtrl v
  | .wrStatus v => RowPattern.wrStatus v
  | .wrIrqEn v => RowPattern.wrIrqEn v
  | .wrNodeAddr v => RowPattern.wrNodeAddr v
  | .wrTxMcs v => RowPattern.wrTxMcs v
  | .wrTxDest v => RowPattern.wrTxDest v
  | .wrTxLen v => RowPattern.wrTxLen v
  | .wrAckTimeoutLo v => RowPattern.wrAckTimeoutLo v
  | .wrAckTimeoutHi v => RowPattern.wrAckTimeoutHi v
  | .wrFrameTimeLo v => RowPattern.wrFrameTimeLo v
  | .wrFrameTimeHi v => RowPattern.wrFrameTimeHi v
  | .wrCntTxData v => RowPattern.wrCntTxData v
  | .wrCntTxAck v => RowPattern.wrCntTxAck v
  | .wrCntRxDeliv v => RowPattern.wrCntRxDeliv v
  | .wrCntRxCksum v => RowPattern.wrCntRxCksum v
  | .wrCntRxTrunc v => RowPattern.wrCntRxTrunc v
  | .wrCntRxFilt v => RowPattern.wrCntRxFilt v
  | .wrCntRxOverrun v => RowPattern.wrCntRxOverrun v
  | .wrCntTimeout v => RowPattern.wrCntTimeout v
  | .wrCntRxAck v => RowPattern.wrCntRxAck v
  | .wrTxBuf i v => RowPattern.wrTxBuf i v
  | .nop => RowPattern.nop
  | .send => RowPattern.send
  | .abort => RowPattern.abort
  | .rxRelease => RowPattern.rxRelease
  | .rxAccept => RowPattern.rxAccept
  | .softReset => RowPattern.softReset
  | .cmdIllegal c => RowPattern.cmdIllegal c
  | .wrIgnored a v => RowPattern.wrIgnored a v
  | .rxTrunc f => RowPattern.rxTrunc f
  | .rxBadsum h p => RowPattern.rxBadsum h p
  | .rxAck h => RowPattern.rxAck h
  | .rxData h p => RowPattern.rxData h p
  | .txDataFrame => RowPattern.txDataFrame
  | .txAckFrame => RowPattern.txAckFrame

end Sys2Proof.Laws
end

section
/-! ## The encodings (R310, R320 to R323): the decoder and the encoder are inverse -/

namespace Sys2Proof

open Machine

/-! ### Write words -/

theorem addr_eq_of_toNat {a : Addr} {n : Nat} (h : a.toNat = n) : a = BitVec.ofNat 10 n := by
  rw [← h, BitVec.ofNat_toNat, BitVec.setWidth_eq]

theorem byte_eq_of_toNat {b : Byte} {n : Nat} (h : b.toNat = n) : b = BitVec.ofNat 8 n := by
  rw [← h, BitVec.ofNat_toNat, BitVec.setWidth_eq]

/-- TX_BUF[idx] lies at HOST address 0x100 + idx (R201). -/
theorem txBufAddr_toNat (idx : Byte) : (0x100#10 ||| idx.setWidth 10).toNat = 0x100 + idx.toNat := by
  have hor : 2 ^ 8 + idx.toNat = 2 ^ 8 ||| idx.toNat := by
    simpa using Nat.two_pow_add_eq_or_of_lt idx.isLt 1
  have hsmall : idx.toNat % 1024 = idx.toNat := Nat.mod_eq_of_lt (by omega)
  simpa [hsmall] using hor.symm

/-- What a write decodes to at an address of TX_BUF (R651). -/
theorem decodeWrite_txBuf {a : Addr} (v : Byte) (hlo : 0x100 ≤ a.toNat) (hhi : a.toNat ≤ 0x1FE) :
    decodeWrite a v = .wrTxBuf (BitVec.ofNat 8 (a.toNat - 0x100)) v := by
  unfold decodeWrite
  split
  case h_22 => exact if_pos ⟨hlo, hhi⟩
  all_goals omega

/-- An ignored address is that of no row but WR_IGNORED (R322). -/
theorem isIgnoredAddr_iff (a : Addr) : isIgnoredAddr a = true ↔
    a.toNat ∉ writableRegs ∧ ¬(0x100 ≤ a.toNat ∧ a.toNat ≤ 0x1FE) := by
  simp [isIgnoredAddr, imp_iff_not_or]

/-- A write that no other row matches is ignored (R322). -/
theorem decodeWrite_ignored {a : Addr} (v : Byte) (h : isIgnoredAddr a = true) :
    decodeWrite a v = .wrIgnored a v := by
  obtain ⟨hreg, hbuf⟩ := (isIgnoredAddr_iff a).1 h
  unfold decodeWrite
  split
  case h_22 => rw [if_neg hbuf]
  all_goals rename_i haddr; exact absurd (by rw [haddr]; decide) hreg

/-- A code that no command is assigned is illegal (R321). -/
theorem decodeCmd_illegal {c : Byte} (h : isIllegalCode c = true) : decodeCmd c = .cmdIllegal c := by
  unfold decodeCmd
  split
  case h_7 => rfl
  all_goals simp_all [isIllegalCode, assignedCodes]

theorem encode_decodeCmd (c : Byte) : encode (decodeCmd c) = .bus (busWord true 0x003#10 c) := by
  unfold decodeCmd
  split
  case h_7 => rfl
  all_goals rename_i h; rw [byte_eq_of_toNat h]; rfl

theorem wellFormed_decodeCmd (c : Byte) : wellFormed (decodeCmd c) = true := by
  unfold decodeCmd
  split
  case h_7 => simp_all [wellFormed, isIllegalCode, assignedCodes]
  all_goals rfl

theorem encode_decodeWrite (a : Addr) (v : Byte) : encode (decodeWrite a v) = .bus (busWord true a v) := by
  unfold decodeWrite
  split
  case h_2 h =>
    rw [addr_eq_of_toNat h]
    exact encode_decodeCmd v
  case h_22 =>
    split_ifs with hbuf
    · have haddr : 0x100#10 ||| (BitVec.ofNat 8 (a.toNat - 0x100)).setWidth 10 = a := by
        apply BitVec.eq_of_toNat_eq
        rw [txBufAddr_toNat, BitVec.toNat_ofNat]
        omega
      rw [encode, haddr]
    · rfl
  all_goals rename_i h; rw [addr_eq_of_toNat h]; rfl

theorem wellFormed_decodeWrite (a : Addr) (v : Byte) : wellFormed (decodeWrite a v) = true := by
  unfold decodeWrite
  split
  case h_2 => exact wellFormed_decodeCmd v
  case h_22 =>
    split_ifs with hbuf
    · have hne : BitVec.ofNat 8 (a.toNat - 0x100) ≠ 0xFF#8 := by
        intro heq
        have := congrArg BitVec.toNat heq
        simp only [BitVec.toNat_ofNat] at this
        omega
      simpa [wellFormed] using hne
    · exact (isIgnoredAddr_iff a).2 ⟨by simp_all [writableRegs], hbuf⟩
  all_goals rfl

/-! ### Frames -/

/-- A byte string is too short for a header, or a header followed by a payload (R300, R454). -/
theorem frame_cases (f : List Byte) : f.length < 6 ∨ ∃ h p, f = frameBytes ⟨h, p⟩ := by
  match f with
  | m :: l :: s :: d :: a :: c :: p => exact .inr ⟨⟨m, l, s, d, a, c⟩, p, rfl⟩
  | [] | [_] | [_, _] | [_, _, _] | [_, _, _, _] | [_, _, _, _, _] => exact .inl (by simp)

theorem decodeFrame_short {f : List Byte} (h : f.length < 6) : decodeFrame f = .rxTrunc f := by
  match f with
  | [] | [_] | [_, _] | [_, _, _] | [_, _, _, _] | [_, _, _, _, _] => rfl
  | _ :: _ :: _ :: _ :: _ :: _ :: p => exact absurd h (by simp)

@[simp] theorem decodeBytes_frameBytes (fr : Frame) : decodeBytes (frameBytes fr) = .ok fr := rfl

theorem decodeFrame_badsum {h : Header} {p : List Byte} (hv : validate ⟨h, p⟩ = false) :
    decodeFrame (frameBytes ⟨h, p⟩) = .rxBadsum h p := by
  simp [decodeFrame, hv]

theorem decodeFrame_ack {h : Header} (hv : validate ⟨h, Config.ackSentinel⟩ = true) :
    decodeFrame (frameBytes ⟨h, Config.ackSentinel⟩) = .rxAck h := by
  simp [decodeFrame, hv, isAck]

theorem decodeFrame_data {h : Header} {p : List Byte} (hv : validate ⟨h, p⟩ = true)
    (hp : p ≠ Config.ackSentinel) : decodeFrame (frameBytes ⟨h, p⟩) = .rxData h p := by
  simp [decodeFrame, hv, isAck, hp]

/-- The classes of R323, and when each applies: a byte string falls in exactly one. -/
inductive FrameClass : List Byte → Instr → Prop
  | trunc (f : List Byte) : f.length < 6 → FrameClass f (.rxTrunc f)
  | badsum (h : Header) (p : List Byte) : validate ⟨h, p⟩ = false →
      FrameClass (frameBytes ⟨h, p⟩) (.rxBadsum h p)
  | ack (h : Header) : validate ⟨h, Config.ackSentinel⟩ = true →
      FrameClass (frameBytes ⟨h, Config.ackSentinel⟩) (.rxAck h)
  | data (h : Header) (p : List Byte) : validate ⟨h, p⟩ = true → p ≠ Config.ackSentinel →
      FrameClass (frameBytes ⟨h, p⟩) (.rxData h p)

theorem decodeFrame_class (f : List Byte) : FrameClass f (decodeFrame f) := by
  rcases frame_cases f with hlen | ⟨h, p, rfl⟩
  · rw [decodeFrame_short hlen]
    exact .trunc f hlen
  · cases hv : validate ⟨h, p⟩ with
    | false =>
      rw [decodeFrame_badsum hv]
      exact .badsum h p hv
    | true =>
      by_cases hp : p = Config.ackSentinel
      · subst hp
        rw [decodeFrame_ack hv]
        exact .ack h hv
      · rw [decodeFrame_data hv hp]
        exact .data h p hv hp

theorem FrameClass.wellFormed {f : List Byte} {i : Instr} (h : FrameClass f i) : wellFormed i = true := by
  cases h with
  | trunc _ hlen => exact decide_eq_true hlen
  | badsum _ _ hv => simp [Sys2Proof.wellFormed, hv]
  | ack _ hv => exact hv
  | data _ _ hv hp => simp [Sys2Proof.wellFormed, hv, isAck, hp]

theorem FrameClass.encode_eq {f : List Byte} {i : Instr} (h : FrameClass f i) : encode i = .frame f := by
  cases h <;> rfl

/-! ### The statements -/

/-- Settles O1: each row's word or frame is taken apart again, row by row. -/
theorem decodeOfEncodeIsTheInstruction : Obligations.DecodeOfEncodeIsTheInstruction := by
  unfold Obligations.DecodeOfEncodeIsTheInstruction
  intro i hwf
  cases i with
  | rd a => simp [encode, decode, decodeBus]
  | wrTxBuf idx v =>
    have hne : idx ≠ 0xFF#8 := by simpa [wellFormed] using hwf
    have hlast : idx.toNat ≤ 0xFE := by bv_omega
    have haddr := txBufAddr_toNat idx
    rw [encode, decode, decodeBus_write, decodeWrite_txBuf v (by omega) (by omega), haddr,
      Nat.add_sub_cancel_left, BitVec.ofNat_toNat, BitVec.setWidth_eq]
  | cmdIllegal c =>
    rw [encode, decode, decodeBus_write]
    exact decodeCmd_illegal hwf
  | wrIgnored a v =>
    rw [encode, decode, decodeBus_write]
    exact decodeWrite_ignored v hwf
  | rxTrunc f => exact decodeFrame_short (of_decide_eq_true hwf)
  | rxBadsum h p => exact decodeFrame_badsum (by simpa [wellFormed] using hwf)
  | rxAck h => exact decodeFrame_ack hwf
  | rxData h p =>
    obtain ⟨hv, hp⟩ : validate ⟨h, p⟩ = true ∧ p ≠ Config.ackSentinel := by
      simpa [wellFormed, isAck] using hwf
    exact decodeFrame_data hv hp
  | txDataFrame | txAckFrame => rfl
  | wrCtrl _ | wrStatus _ | wrIrqEn _ | wrNodeAddr _ | wrTxMcs _ | wrTxDest _ | wrTxLen _ | wrAckTimeoutLo _
  | wrAckTimeoutHi _ | wrFrameTimeLo _ | wrFrameTimeHi _ | wrCntTxData _ | wrCntTxAck _ | wrCntRxDeliv _
  | wrCntRxCksum _ | wrCntRxTrunc _ | wrCntRxFilt _ | wrCntRxOverrun _ | wrCntTimeout _ | wrCntRxAck _
  | nop | send | abort | rxRelease | rxAccept | softReset =>
    rw [encode, decode, decodeBus_write]
    rfl

theorem encode_decodeBus_write {w : BusWord} (hwe : wordWe w = true) : encode (decodeBus w) = .bus w := by
  rw [decodeBus, if_pos hwe, encode_decodeWrite, ← hwe, busWord_fields]

/-- Settles O3: the fields of a word and the bytes of a frame stand in the decoded operands. -/
theorem encodeOfDecodeIsTheEncoding : Obligations.EncodeOfDecodeIsTheEncoding := by
  unfold Obligations.EncodeOfDecodeIsTheEncoding
  exact ⟨fun _ => encode_decodeBus_write, fun a => by simp [decodeBus, encode],
    fun f => (decodeFrame_class f).encode_eq⟩

theorem wellFormed_decode (e : Encoding) : wellFormed (decode e) = true := by
  cases e with
  | bus w =>
    rw [decode, decodeBus]
    split_ifs
    · exact wellFormed_decodeWrite _ _
    · rfl
  | frame f => exact (decodeFrame_class f).wellFormed
  | grant k => cases k <;> rfl

/-- What the mask of the row RD leaves of a word (R310). -/
theorem readMask_eq_zero {w : BusWord} (hwe : wordWe w = false) : w &&& 0x40000#19 = 0#19 := by
  ext i hi
  have hbits : ∀ j (hj : j < 19), (0x40000#19)[j] = decide (j = 18) := by decide
  have hmask := hbits i hi
  by_cases h : i = 18
  · subst h
    simpa [wordWe, BitVec.getLsbD_eq_getElem] using hwe
  · simp [hmask, h]

/-- The table's match and mask take every bus word (R311): a write word because it is what its instruction
encodes to, a read word by its WE bit. -/
theorem decodeBus_tableRow (w : BusWord) : ∃ r, tableRow (decodeBus w) = some r ∧ w &&& r.2 = r.1 := by
  cases hwe : wordWe w with
  | true =>
    have hrow := Laws.rowPattern (decodeBus w) (wellFormed_decode (.bus w))
    rw [encode_decodeBus_write hwe] at hrow
    exact hrow
  | false =>
    rw [decodeBus, hwe]
    exact ⟨_, rfl, readMask_eq_zero hwe⟩

/-- Settles O2: the decoded row is well-formed, its table row takes the word, and the classes come in order. -/
theorem everyEncodingDecodesWellFormed : Obligations.EveryEncodingDecodesWellFormed := by
  unfold Obligations.EveryEncodingDecodesWellFormed
  refine ⟨wellFormed_decode, decodeBus_tableRow, fun _ => decodeFrame_short, fun h p => ⟨?_, ?_, ?_⟩, rfl, rfl⟩
  · exact decodeFrame_badsum
  · rintro hv rfl
    exact decodeFrame_ack hv
  · exact decodeFrame_data

/-- Settles O4: each word evaluates to its row. -/
theorem writtenOutWordsDecode : Obligations.WrittenOutWordsDecode := by
  unfold Obligations.WrittenOutWordsDecode
  refine ⟨?_, ?_, ?_, ?_, ?_, ?_, ?_, ?_, ?_, ?_⟩
  all_goals decide

end Sys2Proof
end

section
/-! ## The frames on the TX port (R518, R604 to R606) -/

namespace Sys2Proof.Machine

/-! ### ENCODE and VALIDATE -/

/-- ENCODE of in-range fields is the frame whose length byte and checksum are those of the payload (R452). -/
theorem encodeFrame_bytes (m q d a : Byte) {p : List Byte} (hpos : 1 ≤ p.length) (hlen : p.length ≤ 255) :
    encodeFrame m.toNat q.toNat d.toNat a.toNat p = .ok (frameBytes
      ⟨⟨m, BitVec.ofNat 8 p.length, q, d, a, checksum m (BitVec.ofNat 8 p.length) q d a p⟩, p⟩) := by
  have hfields : ¬(m.toNat > 255 ∨ q.toNat > 255 ∨ d.toNat > 255 ∨ a.toNat > 255) := by omega
  have hrange : ¬(p.length < Config.minTxPayload ∨ p.length > Config.maxPayload) := by
    rw [Config.minTxPayload, Config.maxPayload]
    omega
  rw [encodeFrame, if_neg hfields, if_neg hrange]
  simp only [BitVec.ofNat_toNat, BitVec.setWidth_eq]
  rfl

theorem validate_eq_true_iff (h : Header) (p : List Byte) :
    validate ⟨h, p⟩ = true ↔ checksum h.mcs h.len h.seq h.dest h.src p = h.cksum := by
  simp [validate]

/-! ### What the engine holds -/

theorem txPayload_length (s : State) (n : Nat) : (s.txPayload n).length = n := by
  simp [State.txPayload]

/-- An ack on the port is the frame LOAD_ACK built (R604). -/
theorem engineFrame_of_ack {s : State} (hkind : s.eng.kind = .ack) :
    s.engineFrame = frameBytes ⟨s.eng.hdr, Config.ackSentinel⟩ := by
  rw [State.engineFrame, hkind]
  rfl

/-- A data frame on the port is the latched header with the checksum of the whole pass, and TX_BUF (R605). -/
theorem TransmitInv.engineFrame_of_data {s : State} (h : TransmitInv s) (hport : s.dataOnPort = true) :
    s.engineFrame = frameBytes ⟨s.dataHeader, s.txPayload s.snd.hdrL.len.toNat⟩ ∧
      1 ≤ s.snd.hdrL.len.toNat ∧ s.snd.csum = s.sendChecksum s.snd.hdrL.len.toNat := by
  obtain ⟨hsending, hstarted⟩ := h.streamsData.1 hport
  obtain ⟨hhdr, hplen⟩ := h.dataLoaded hport
  obtain ⟨-, hkind⟩ : s.eng.busy = true ∧ s.eng.kind = .data := by simpa [State.dataOnPort] using hport
  refine ⟨?_, h.passDone (by rw [hsending]; rfl) (h.startedReady hsending hstarted)⟩
  rw [State.engineFrame, hkind, hhdr, hplen]
  rfl

/-- The frame ENCODE makes of the send's latched fields and TX_BUF (R303, R452). -/
def State.sendFrame (s : State) : Except CodecError (List Byte) :=
  encodeFrame s.snd.hdrL.mcs.toNat s.snd.hdrL.seq.toNat s.snd.hdrL.dest.toNat s.snd.hdrL.src.toNat
    (s.txPayload s.snd.hdrL.len.toNat)

theorem TransmitInv.sendFrame_eq {s : State} (h : TransmitInv s) (hport : s.dataOnPort = true) :
    s.sendFrame = .ok s.engineFrame := by
  obtain ⟨hframe, hpos, hcsum⟩ := h.engineFrame_of_data hport
  have hlen : (s.txPayload s.snd.hdrL.len.toNat).length = s.snd.hdrL.len.toNat := txPayload_length s _
  rw [State.sendFrame, encodeFrame_bytes _ _ _ _ (by omega) (by omega), hframe, hlen, State.dataHeader, hcsum,
    BitVec.ofNat_toNat, BitVec.setWidth_eq]
  rfl

/-- R606: the engine's frame decodes, and its checksum is right. -/
theorem TransmitInv.engineFrame_valid {s : State} (h : TransmitInv s) (hbusy : s.eng.busy = true) :
    ∃ fr, decodeBytes s.engineFrame = .ok fr ∧ validate fr = true := by
  cases hkind : s.eng.kind with
  | data =>
    obtain ⟨hframe, -, hcsum⟩ := h.engineFrame_of_data (by simp [State.dataOnPort, hbusy, hkind])
    exact ⟨⟨s.dataHeader, s.txPayload s.snd.hdrL.len.toNat⟩, by rw [hframe]; rfl,
      (validate_eq_true_iff _ _).2 hcsum.symm⟩
  | ack =>
    obtain ⟨-, -, hvalid⟩ := h.ackLoaded hbusy hkind
    exact ⟨_, by rw [engineFrame_of_ack hkind]; rfl, hvalid⟩

/-! ### One send -/

/-- The send's frame is made of what one send keeps (R518). -/
theorem SameFrame.sendFrame_eq {s t : State} (h : SameFrame s t) : t.sendFrame = s.sendFrame := by
  have hpay : t.txPayload s.snd.hdrL.len.toNat = s.txPayload s.snd.hdrL.len.toNat :=
    List.map_congr_left fun i hi => h.buf i (by have := List.mem_range.1 hi; omega)
  rw [State.sendFrame, State.sendFrame, h.hdrL, hpay]

/-- Along a run of one send the transmit invariant and the send's frame are kept. -/
theorem TransmitInv.run_sameFrame {s t : State} (hs : TransmitInv s)
    (hrun : Relation.ReflTransGen SendContinues s t) : TransmitInv t ∧ SameFrame s t := by
  induction hrun with
  | refl => exact ⟨hs, .of_eq rfl rfl rfl rfl rfl⟩
  | tail _ hcont ih =>
    obtain ⟨hinv, hframe⟩ := ih
    have hnext := hcont.sameFrame
    obtain ⟨-, -, -, hstep⟩ := hcont
    exact ⟨step_transmit hinv hstep, hframe.trans hnext⟩

/-- Settles O58: the engine's frame is the send's or an ack, and one send has one frame. -/
theorem everyFrameOnThePortIsValid : Obligations.EveryFrameOnThePortIsValid := by
  unfold Obligations.EveryFrameOnThePortIsValid
  refine ⟨fun s hs hbusy => ⟨hs.engineFrame_valid hbusy, fun hkind => ?_, fun hkind => ?_⟩,
    fun s t hs hrun hsport htport => ?_⟩
  · exact hs.sendFrame_eq (by simp [State.dataOnPort, hbusy, hkind])
  · obtain ⟨-, -, hvalid⟩ := hs.ackLoaded hbusy hkind
    exact ⟨_, by rw [engineFrame_of_ack hkind]; exact decodeFrame_ack hvalid⟩
  · obtain ⟨ht, hframe⟩ := hs.run_sameFrame hrun
    have hsame : t.sendFrame = s.sendFrame := hframe.sendFrame_eq
    rw [ht.sendFrame_eq htport, hs.sendFrame_eq hsport] at hsame
    exact Except.ok.inj hsame

end Sys2Proof.Machine
end

section
/-! ## The receive assembler (R550, R552, R553): a frame taken byte by byte is the frame the decoder reads -/

namespace Sys2Proof.Machine

/-! ### What the assembler holds after a byte list -/

theorem frameBytes_length (h : Header) (p : List Byte) : (frameBytes ⟨h, p⟩).length = p.length + 6 := rfl

theorem headerByte_headerSet (h : Header) {i j : Nat} (b : Byte) (hi : i < 6) (hj : j < 6) :
    headerByte (headerSet h i b) j = if j = i then b else headerByte h j := by
  interval_cases i <;> interval_cases j <;> rfl

/-- The sum of every byte but byte 5, over the naturals (R451, R550). -/
def coveredSum (f : List Byte) : Nat := sumBytes (f.take 5) + sumBytes (f.drop 6)

theorem coveredSum_concat (f : List Byte) (b : Byte) :
    coveredSum (f ++ [b]) = coveredSum f + if f.length = 5 then 0 else b.toNat := by
  have hone : sumBytes [b] = b.toNat := by simp [sumBytes]
  have hnone : f.length < 6 → f.drop 6 = [] := fun hlen => List.drop_eq_nil_of_le (by omega)
  have hall : f.length ≤ 5 → f.take 5 = f := fun hlen => List.take_of_length_le hlen
  rcases lt_trichotomy f.length 5 with hlen | hlen | hlen
  · have htake : (f ++ [b]).take 5 = f ++ [b] := List.take_of_length_le (by simp; omega)
    have hdrop : (f ++ [b]).drop 6 = [] := List.drop_eq_nil_of_le (by simp; omega)
    rw [coveredSum, coveredSum, htake, hdrop, hall (by omega), hnone (by omega), if_neg (by omega),
      sumBytes_append, hone, sumBytes]
    omega
  · have hdrop : (f ++ [b]).drop 6 = [] := List.drop_eq_nil_of_le (by simp; omega)
    rw [coveredSum, coveredSum, List.take_append_of_le_length (by omega), hdrop, hnone (by omega), if_pos hlen,
      Nat.add_zero]
  · rw [coveredSum, coveredSum, List.take_append_of_le_length (by omega),
      List.drop_append_of_le_length (by omega), sumBytes_append, hone, if_neg (by omega), Nat.add_assoc]

/-- The assembler's registers after it has taken the bytes f of one frame (R550). -/
structure Assembler.Holds (a : Assembler) (f : List Byte) : Prop where
  count : a.n.toNat = min f.length 262
  sum : a.sum = BitVec.ofNat 8 (coveredSum f)
  header : ∀ i, i < 6 → i < f.length → f[i]? = some (headerByte a.hdr i)
  staged : ∀ j, j < 255 → 6 + j < f.length → memGet? a.stage j = f[6 + j]?

namespace Assembler.Holds

theorem nil {a : Assembler} (hn : a.n = 0) (hsum : a.sum = 0) : a.Holds [] where
  count := by simp [hn]
  sum := by rw [hsum]; rfl
  header := by simp
  staged := by simp

/-- One byte more (R550). -/
theorem take {a : Assembler} {f : List Byte} (h : a.Holds f) (b : Byte) : (a.take b).Holds (f ++ [b]) where
  count := by
    simp only [Assembler.take, h.count, BitVec.toNat_ofNat, List.length_append, List.length_singleton]
    omega
  sum := by
    have hfive : a.n.toNat = 5 ↔ f.length = 5 := by rw [h.count]; omega
    simp only [Assembler.take, ne_eq, hfive, coveredSum_concat, h.sum]
    split_ifs <;> simp [BitVec.ofNat_add]
  header i hi hlen := by
    simp only [List.length_append, List.length_singleton] at hlen
    simp only [Assembler.take, h.count]
    split_ifs with hpos
    · have hmin : min f.length 262 = f.length := by omega
      rw [headerByte_headerSet _ _ hpos hi, hmin]
      split_ifs with heq
      · simp [heq]
      · rw [List.getElem?_append_left (by omega)]
        exact h.header i hi (by omega)
    · rw [List.getElem?_append_left (by omega)]
      exact h.header i hi (by omega)
  staged j hj hlen := by
    simp only [List.length_append, List.length_singleton] at hlen
    simp only [Assembler.take, h.count, Config.maxPayload]
    split_ifs with hpos
    · have hmin : min f.length 262 = f.length := by omega
      rw [hmin]
      by_cases heq : 6 + j = f.length
      · have hplace : f.length - 6 = j := by omega
        rw [hplace, memGet?_memSet_same, heq, List.getElem?_concat_length]
      · rw [memGet?_memSet_other _ _ _ _ (by omega), List.getElem?_append_left (by omega)]
        exact h.staged j hj (by omega)
    · rw [List.getElem?_append_left (by omega)]
      exact h.staged j hj (by omega)

theorem foldl_take {a : Assembler} {g : List Byte} (h : a.Holds g) (f : List Byte) :
    (f.foldl Assembler.take a).Holds (g ++ f) := by
  induction f generalizing a g with
  | nil => simpa using h
  | cons b rest ih => simpa using ih (h.take b)

/-! ### A whole header -/

theorem hdr_eq {a : Assembler} {h : Header} {p : List Byte} (ha : a.Holds (frameBytes ⟨h, p⟩)) : a.hdr = h := by
  have hbyte : ∀ i, i < 6 → (frameBytes ⟨h, p⟩)[i]? = some (headerByte a.hdr i) := fun i hi =>
    ha.header i hi (by rw [frameBytes_length]; omega)
  have h0 : h.mcs = a.hdr.mcs := Option.some.inj (hbyte 0 (by omega))
  have h1 : h.len = a.hdr.len := Option.some.inj (hbyte 1 (by omega))
  have h2 : h.seq = a.hdr.seq := Option.some.inj (hbyte 2 (by omega))
  have h3 : h.dest = a.hdr.dest := Option.some.inj (hbyte 3 (by omega))
  have h4 : h.src = a.hdr.src := Option.some.inj (hbyte 4 (by omega))
  have h5 : h.cksum = a.hdr.cksum := Option.some.inj (hbyte 5 (by omega))
  cases h
  simp_all

/-- The sum the assembler keeps is the frame's checksum (R462). -/
theorem sum_eq {a : Assembler} {h : Header} {p : List Byte} (ha : a.Holds (frameBytes ⟨h, p⟩)) :
    a.sum = checksum h.mcs h.len h.seq h.dest h.src p := by
  rw [ha.sum, checksum]
  congr 1
  simp only [coveredSum, frameBytes, headerBytes, List.cons_append, List.nil_append, List.take_succ_cons,
    List.take_zero, List.drop_succ_cons, List.drop_zero, sumBytes]
  omega

end Assembler.Holds

/-! ### The payload as the assembler gives it -/

theorem stagePayload_of_holds {s : State} {h : Header} {p : List Byte} (ha : s.asm.Holds (frameBytes ⟨h, p⟩))
    {n : Nat} (hn : n ≤ 255) (hp : n ≤ p.length) : s.stagePayload n = p.take n := by
  apply List.ext_getElem (by simp [State.stagePayload, hp])
  intro j hj _
  have hjn : j < n := by simpa [State.stagePayload] using hj
  have hstaged : memGet? s.asm.stage j = some p[j] := by
    rw [ha.staged j (by omega) (by rw [frameBytes_length]; omega)]
    simp [frameBytes, headerBytes, Nat.add_comm 6 j]
  simp [State.stagePayload, State.stageByte, hstaged]

theorem assembledPayload_of_holds {s : State} {h : Header} {p : List Byte}
    (ha : s.asm.Holds (frameBytes ⟨h, p⟩)) (hp : p.length ≤ 255) : s.assembledPayload p.length = p := by
  rw [State.assembledPayload, Config.maxPayload, if_pos hp, stagePayload_of_holds ha hp le_rfl, List.take_length]

/-- Past 255 payload bytes the stand-in payload is one byte too long (log entry 9). -/
theorem assembledPayload_length_of_gt (s : State) {n : Nat} (hn : 255 < n) :
    (s.assembledPayload n).length = 256 := by
  rw [State.assembledPayload, Config.maxPayload, if_neg (by omega)]
  simp [State.stagePayload]

/-- The ack's payload is recognised by its three staged bytes (R553). -/
theorem staged_ack_iff {s : State} {h : Header} {p : List Byte} (ha : s.asm.Holds (frameBytes ⟨h, p⟩)) :
    (min p.length 256 = 3 ∧ s.stagePayload 3 = Config.ackSentinel) ↔ p = Config.ackSentinel := by
  have hlen : p.length = 3 → s.stagePayload 3 = p := fun hlen => by
    rw [stagePayload_of_holds ha (by omega) (by omega), ← hlen, List.take_length]
  constructor
  · rintro ⟨hmin, hack⟩
    rw [← hack, hlen (by omega)]
  · rintro rfl
    exact ⟨rfl, hlen rfl⟩

/-! ### The class of a completed frame (R553, R323) -/

theorem completedFrame_short {s : State} {f : List Byte} (ha : s.asm.Holds f) (hlen : f.length < 6) :
    s.completedFrame = .rxTrunc f := by
  have hcount : s.asm.n.toNat = f.length := by rw [ha.count]; omega
  have hbytes : (headerBytes s.asm.hdr).take f.length = f := by
    apply List.ext_getElem? fun i => ?_
    by_cases hi : i < f.length
    · have hi6 : i < 6 := by omega
      rw [List.getElem?_take_of_lt hi, ha.header i hi6 hi]
      interval_cases i <;> rfl
    · rw [List.getElem?_eq_none (by simp; omega), List.getElem?_eq_none (by omega)]
  rw [State.completedFrame]
  simp only [hcount, if_pos hlen, hbytes]

/-- The classes of a frame with a whole header: those of `FrameClass`, on the payload the assembler gives. -/
theorem completedFrame_of_holds {s : State} {h : Header} {p : List Byte}
    (ha : s.asm.Holds (frameBytes ⟨h, p⟩)) :
    s.completedFrame =
      if validate ⟨h, p⟩ = false then .rxBadsum h (s.assembledPayload (min p.length 256))
      else if p = Config.ackSentinel then .rxAck h
      else .rxData h (s.assembledPayload (min p.length 256)) := by
  have hcount : s.asm.n.toNat = min p.length 256 + 6 := by
    rw [ha.count, frameBytes_length]
    omega
  have hvalid : (s.asm.sum ≠ h.cksum) = (validate ⟨h, p⟩ = false) := by
    rw [ha.sum_eq, validate, beq_eq_false_iff_ne]
  rw [State.completedFrame]
  simp only [hcount, ha.hdr_eq, Nat.add_sub_cancel, hvalid, staged_ack_iff ha]
  rw [if_neg (by omega)]

/-- Up to 255 payload bytes the class is the decoder's. -/
theorem completedFrame_eq_decodeFrame {s : State} {f : List Byte} (ha : s.asm.Holds f) (hlen : f.length ≤ 261) :
    s.completedFrame = decodeFrame f := by
  rcases frame_cases f with hshort | ⟨h, p, rfl⟩
  · rw [completedFrame_short ha hshort, decodeFrame_short hshort]
  · have hp : p.length ≤ 255 := by
      rw [frameBytes_length] at hlen
      omega
    have hmin : min p.length 256 = p.length := by omega
    rw [completedFrame_of_holds ha, hmin, assembledPayload_of_holds ha hp]
    simp [decodeFrame, isAck]

/-- A data frame of more than 255 payload bytes is dropped, for a cause that its bytes do not decide (R553). -/
theorem dataDrop_cause_of_oversize (h : Header) (s : State) :
    ∃ c, ∀ p : List Byte, 255 < p.length → s.dataDrop h p = some c := by
  by_cases hdest : h.dest = s.regs.nodeAddr
  · exact ⟨_, fun _ => dataDrop_oversize hdest⟩
  · exact ⟨_, fun _ _ => dataDrop_destMismatch hdest⟩

theorem exec_rxData_oversize (h : Header) {p q : List Byte} (s : State) (hp : 255 < p.length)
    (hq : 255 < q.length) : exec (.rxData h p) s = exec (.rxData h q) s := by
  cases hen : s.enable with
  | false => simp [exec, execRxData, whenTaking, hen]
  | true =>
    obtain ⟨c, hc⟩ := dataDrop_cause_of_oversize h (noMatch s)
    rw [exec_rxData_of_drop hen (hc p hp), exec_rxData_of_drop hen (hc q hq)]

/-- Whatever its length, the assembled frame acts as the decoder's reading of its bytes. -/
theorem exec_completedFrame_eq {s : State} {f : List Byte} (ha : s.asm.Holds f) :
    exec s.completedFrame s = exec (decodeFrame f) s := by
  by_cases hlen : f.length ≤ 261
  · rw [completedFrame_eq_decodeFrame ha hlen]
  rcases frame_cases f with hshort | ⟨h, p, rfl⟩
  · omega
  · have hp : 255 < p.length := by
      rw [frameBytes_length] at hlen
      omega
    have hack : p ≠ Config.ackSentinel := by
      rintro rfl
      simp [Config.ackSentinel] at hp
    have hstand := assembledPayload_length_of_gt s (n := min p.length 256) (by omega)
    rw [completedFrame_of_holds ha, if_neg hack]
    cases hv : validate ⟨h, p⟩ with
    | false => rw [if_pos rfl, decodeFrame_badsum hv]; rfl
    | true =>
      rw [if_neg (by simp), decodeFrame_data hv hack]
      exact exec_rxData_oversize h s (by omega) hp

/-- Settles O41: the bytes taken stand in the assembler, and it classifies them as the decoder does. -/
theorem assembledFrameActsAsItsBytes : Obligations.AssembledFrameActsAsItsBytes := by
  unfold Obligations.AssembledFrameActsAsItsBytes
  intro s f _ hn hsum
  have ha : (f.foldl Assembler.take s.asm).Holds f := (Assembler.Holds.nil hn hsum).foldl_take f
  exact ⟨completedFrame_eq_decodeFrame (s := { s with asm := _ }) ha,
    exec_completedFrame_eq (s := { s with asm := _ }) ha⟩

end Sys2Proof.Machine
end

section
/-! ## A frame presented on the RX port, one byte a cycle (R330, R552, R553) -/

namespace Sys2Proof.Machine

/-! ### What the class of a frame depends on -/

/-- s and t agree in all that the class of a frame reads and writes but for the stamp of a delivery. -/
structure SameReceiver (s t : State) : Prop where
  regs : t.regs = s.regs
  cnt : t.cnt = s.cnt
  snd : t.snd = s.snd
  ack : t.ack = s.ack
  eng : t.eng = s.eng
  mem : t.mem = s.mem
  cyc : t.cyc = s.cyc

namespace SameReceiver

theorem refl (s : State) : SameReceiver s s := ⟨rfl, rfl, rfl, rfl, rfl, rfl, rfl⟩

theorem trans {s t u : State} (h1 : SameReceiver s t) (h2 : SameReceiver t u) : SameReceiver s u :=
  ⟨h2.regs.trans h1.regs, h2.cnt.trans h1.cnt, h2.snd.trans h1.snd, h2.ack.trans h1.ack, h2.eng.trans h1.eng,
    h2.mem.trans h1.mem, h2.cyc.trans h1.cyc⟩

theorem noMatch {s t : State} (h : SameReceiver s t) : SameReceiver (noMatch s) (noMatch t) :=
  ⟨h.regs, h.cnt, h.snd, h.ack, h.eng, h.mem, by simp [h.cyc]⟩

theorem drop {s t : State} (h : SameReceiver s t) (c : DropCause) :
    SameReceiver (Machine.drop c s) (Machine.drop c t) := by
  constructor <;> simp [h.regs, h.cnt, h.snd, h.ack, h.eng, h.mem, h.cyc]

theorem receiveAck {s t : State} (h : SameReceiver s t) (hd : Header) :
    SameReceiver (Machine.receiveAck hd s) (Machine.receiveAck hd t) := by
  constructor <;> simp [State.ackMatches, h.regs, h.cnt, h.snd, h.ack, h.eng, h.mem, h.cyc]

theorem deliver {s t : State} (h : SameReceiver s t) (hd : Header) (p : List Byte) :
    SameReceiver (Machine.deliver hd p s) (Machine.deliver hd p t) := by
  constructor <;> simp [State.autoAck, h.regs, h.cnt, h.snd, h.ack, h.eng, h.mem, h.cyc]

theorem receiveData {s t : State} (h : SameReceiver s t) (hd : Header) (p : List Byte) :
    SameReceiver (Machine.receiveData hd p s) (Machine.receiveData hd p t) := by
  have hdrop : t.dataDrop hd p = s.dataDrop hd p := by
    have hstrict : t.strictLen = s.strictLen := by rw [State.strictLen, State.strictLen, h.regs]
    have hauto : t.autoAck = s.autoAck := by rw [State.autoAck, State.autoAck, h.regs]
    rw [State.dataDrop, State.dataDrop, hstrict, hauto, h.regs, h.ack]
  rw [Machine.receiveData, Machine.receiveData, hdrop]
  cases s.dataDrop hd p with
  | none => exact h.deliver hd p
  | some c => exact h.drop c

end SameReceiver

/-- Every class of frame acts alike on states that agree so far. -/
theorem exec_frameClass_same {f : List Byte} {i : Instr} (hc : FrameClass f i) {s t : State}
    (h : SameReceiver s t) (hen : s.enable = true) :
    ∃ u v, exec i s = .next u ∧ exec i t = .next v ∧ SameReceiver u v := by
  have hten : t.enable = true := by rw [State.enable, h.regs]; exact hen
  cases hc with
  | trunc => exact ⟨_, _, if_pos hen, if_pos hten, h.noMatch.drop _⟩
  | badsum => exact ⟨_, _, if_pos hen, if_pos hten, h.noMatch.drop _⟩
  | ack => exact ⟨_, _, if_pos hen, if_pos hten, h.receiveAck _⟩
  | data => exact ⟨_, _, if_pos hen, if_pos hten, h.noMatch.receiveData _ _⟩

/-- What a frame can make of the state: the ways of its class (R553). -/
theorem exec_frameClass_acted {f : List Byte} {i : Instr} (hc : FrameClass f i) {s : State}
    (hen : s.enable = true) : ∃ u, exec i s = .next u ∧ FrameActed s u := by
  cases hc with
  | trunc => exact ⟨_, if_pos hen, .dropped _⟩
  | badsum => exact ⟨_, if_pos hen, .dropped _⟩
  | ack => exact ⟨_, if_pos hen, .acked _⟩
  | data => exact ⟨_, if_pos hen, receiveData_acted _ _ s⟩

theorem FrameActed.inputs_eq {s u : State} (h : FrameActed s u) : u.inputs = s.inputs := by
  cases h <;> simp

theorem FrameActed.w1c {s u : State} (h : FrameActed s u) : u.cyc.w1c = s.cyc.w1c := by
  cases h <;> simp

/-- A frame that becomes held has its payload written in RX_BUF (R556). -/
theorem FrameActed.rxBuf_written {s u : State} (h : FrameActed s u) (hfree : s.regs.rxValid = false)
    (hheld : u.regs.rxValid = true) {j : Nat} (hj : j < u.regs.rxCount.toNat) :
    ∃ b, memGet? u.mem (rxBufBase + j) = some b := by
  cases h with
  | none | dropped _ | acked _ => simp [hfree] at hheld
  | delivered h p hlen =>
    have hcount : j < p.length := by
      simp only [deliver_regs, BitVec.toNat_ofNat] at hj
      omega
    exact ⟨p[j], by simp [memGet?_memSetList, hcount]⟩

theorem rxBufByte_of_written {s t : State} {j : Nat} {b : Byte} (hmem : t.mem = s.mem)
    (hb : memGet? s.mem (rxBufBase + j) = some b) : t.rxBufByte j = s.rxBufByte j := by
  simp [State.rxBufByte, hmem, hb]

/-! ### A cycle in which only a byte comes -/

/-- An enabled block with nothing to send: only its receiver can act. -/
structure Listening (s : State) : Prop where
  enable : s.enable = true
  discard : s.asm.discard = false
  sender : s.snd.st = .idle
  port : s.eng.busy = false
  slot : s.ack.pend = false
  cyc : s.cyc = CycleLocals.none

theorem now_of_inputs {s : State} {p : Pins} {ps : List Pins} (h : s.inputs = p :: ps) : s.now = p := by
  simp [State.now, h]

/-- The state P3 holds once it has taken the byte on the RX port. -/
def tookByte (b : Byte) (s : State) : State := { startCycle s with asm := s.asm.take b }

theorem SameReceiver.tookByte {s : State} (h : s.cyc = CycleLocals.none) (b : Byte) :
    SameReceiver s (tookByte b s) :=
  ⟨rfl, rfl, rfl, rfl, rfl, rfl, h.symm⟩

/-- With the port idle and the sender Idle, P4 and P5 change only the engine, the ack slot and `started`. -/
theorem beforeWrite_quiet {s : State} (hst : s.snd.st = .idle) (hport : s.eng.busy = false) :
    ∃ e a b, beforeWrite s = { s with eng := e, ack := a, snd := { s.snd with started := b } } := by
  have hshake : handshake s = s := by simp [handshake, hport]
  have hload : ∃ e a b, loadGranted s = { s with eng := e, ack := a, snd := { s.snd with started := b } } := by
    rcases loadGranted_cases s with heq | ⟨heq, -⟩ | ⟨heq, -⟩ <;> rw [heq] <;> exact ⟨_, _, _, rfl⟩
  obtain ⟨e, a, b, hload⟩ := hload
  have hidle : (loadGranted s).snd.st = .idle := by rw [hload]; exact hst
  exact ⟨e, a, b, by rw [beforeWrite, hshake, senderPhase_idle hidle, hload]⟩

/-- With nothing to send either, they change nothing. -/
theorem beforeWrite_listening {s : State} (hst : s.snd.st = .idle) (hport : s.eng.busy = false)
    (hslot : s.ack.pend = false) : beforeWrite s = s := by
  have hshake : handshake s = s := by simp [handshake, hport]
  have hload : loadGranted s = s := by simp [loadGranted, State.arbiter, hst, hslot]
  rw [beforeWrite, hshake, hload, senderPhase_idle hst]

/-- A cycle whose pins carry an inbound byte and nothing else is its phases P3 to P5 (R403). -/
theorem step_of_byte {s s3 : State} {b : Byte} {last : Bool} (hpins : s.now = pinsOfByte b last)
    (h : receivePhase (startCycle s) = .next s3) : step s = .next (endCycle (beforeWrite s3)) := by
  have hquiet : transportPhase (startCycle s) = startCycle s :=
    transportPhase_quiet _ (congrArg Pins.chanErr hpins)
  have hrst : s.now.rst = false := congrArg Pins.rst hpins
  have hwrite : s.hostWrite? = none := by
    have hwe : s.now.busWe = false := congrArg Pins.busWe hpins
    simp [State.hostWrite?, hwe]
  simp [step, hrst, afterHost, beforeHost, exec_rd_beginCycle, hquiet, h, txPhase_next, hwrite, beforeWrite]

/-- The intake of a byte in the middle of a frame (R550). -/
theorem receivePhase_byte {s : State} {b : Byte} (hs : Listening s) (hpins : s.now = pinsOfByte b false) :
    receivePhase (startCycle s) = .next (tookByte b s) := by
  have hnow : (startCycle s).now = pinsOfByte b false := hpins
  have hen : (startCycle s).enable = true := hs.enable
  simp [receivePhase, intake, intakeEnabled, hnow, hen, hs.discard, pinsOfByte, tookByte]

/-- The intake of the tlast byte completes the frame (R552). -/
theorem receivePhase_lastByte {s : State} {b : Byte} (hs : Listening s) (hpins : s.now = pinsOfByte b true) :
    receivePhase (startCycle s) =
      andThen (exec (tookByte b s).completedFrame (tookByte b s)) fun u => .next (closeFrame u) := by
  have hnow : (startCycle s).now = pinsOfByte b true := hpins
  have hen : (startCycle s).enable = true := hs.enable
  simp [receivePhase, intake, intakeEnabled, hnow, hen, hs.discard, pinsOfByte, tookByte]

/-- STATUS after a cycle without a clear (R406). -/
theorem finalStatus_no_clear (status setmask : Byte) : finalStatus status setmask 0#8 = status ||| setmask := by
  change (status &&& BitVec.allOnes 8) ||| setmask = status ||| setmask
  rw [BitVec.and_allOnes]

/-- A cycle without an event leaves STATUS alone. -/
theorem SameReceiver.endCycle {s : State} (h : s.cyc = CycleLocals.none) : SameReceiver s (endCycle s) where
  regs := by simp [h, CycleLocals.none, finalStatus_no_clear]
  cnt := rfl
  snd := rfl
  ack := rfl
  eng := rfl
  mem := rfl
  cyc := h.symm

/-- A byte in the middle of a frame is taken, and nothing else happens. -/
theorem step_byte {s : State} {b : Byte} (hs : Listening s) (hpins : s.now = pinsOfByte b false) :
    step s = .next (endCycle (tookByte b s)) := by
  have hquiet : beforeWrite (tookByte b s) = tookByte b s := beforeWrite_listening hs.sender hs.port hs.slot
  rw [step_of_byte hpins (receivePhase_byte hs hpins), hquiet]

theorem Listening.afterByte {s : State} (hs : Listening s) (b : Byte) : Listening (endCycle (tookByte b s)) where
  enable := hs.enable
  discard := hs.discard
  sender := hs.sender
  port := hs.port
  slot := hs.slot
  cyc := rfl

/-! ### The whole frame -/

/-- What is left of the frame when its last cycle is over: the registers with the frame's event in STATUS, the
counters and the storage are those its class gives, on the state u. -/
structure Received (u t : State) : Prop where
  regs : t.regs = { u.regs with status := u.regs.status ||| u.cyc.setmask }
  cnt : t.cnt = u.cnt
  mem : t.mem = u.mem

/-- The tlast byte runs the class of the whole frame. -/
theorem step_lastByte {s s0 u : State} {g : List Byte} {b : Byte} (hs : Listening s) (hg : s.asm.Holds g)
    (hpins : s.now = pinsOfByte b true) (h0 : SameReceiver s0 s)
    (hu : exec (decodeFrame (g ++ [b])) s0 = .next u) :
    ∃ t, step s = .next t ∧ Received u t ∧ t.inputs = s.inputs.tail := by
  have htook : SameReceiver s0 (tookByte b s) := h0.trans (.tookByte hs.cyc b)
  have hen0 : s0.enable = true := by
    have hen := hs.enable
    rwa [State.enable, h0.regs] at hen
  obtain ⟨u', v, hu', hv, hsame⟩ := exec_frameClass_same (decodeFrame_class (g ++ [b])) htook hen0
  obtain rfl : u' = u := by simpa [hu'] using hu
  obtain ⟨v', hv', hacted⟩ := exec_frameClass_acted (decodeFrame_class (g ++ [b])) (s := tookByte b s) hs.enable
  obtain rfl : v = v' := by simpa [hv] using hv'
  have hrecv : receivePhase (startCycle s) = .next (closeFrame v) := by
    rw [receivePhase_lastByte hs hpins, exec_completedFrame_eq (hg.take b), hv, andThen_next]
  have hst : (closeFrame v).snd.st = .idle := by rw [closeFrame_snd, hacted.receiverOnly.snd]; exact hs.sender
  have hport : (closeFrame v).eng.busy = false := by rw [closeFrame_eng, hacted.receiverOnly.eng]; exact hs.port
  have hw1c : u'.cyc.w1c = 0 := by rw [← hsame.cyc]; exact hacted.w1c
  obtain ⟨_, _, _, hquiet⟩ := beforeWrite_quiet hst hport
  refine ⟨_, step_of_byte hpins hrecv, ?_, ?_⟩
  · rw [hquiet]
    exact ⟨by simp [finalStatus_no_clear, hw1c, hsame.regs, hsame.cyc], hsame.cnt, hsame.mem⟩
  · rw [hquiet]
    exact congrArg List.tail hacted.inputs_eq

theorem core_run_succ {s t : State} (k : Nat) (h : step s = .next t) :
    Host.Core.run core (k + 1) s = Host.Core.run core k t := by
  have hcore : core.step s = .next t := h
  simp only [Host.Core.run, hcore]

/-- The bytes of a frame one after the other: g is taken already, f is still to come. -/
theorem run_frame {g f : List Byte} {s s0 u : State} {rest : List Pins} (hf : f ≠ []) (hs : Listening s)
    (hg : s.asm.Holds g) (hin : s.inputs = pinsOfFrame f ++ rest) (h0 : SameReceiver s0 s)
    (hu : exec (decodeFrame (g ++ f)) s0 = .next u) :
    ∃ t, Host.Core.run core f.length s = .next t ∧ Received u t ∧ t.inputs = rest := by
  induction f generalizing g s with
  | nil => exact absurd rfl hf
  | cons b f' ih =>
    cases f' with
    | nil =>
      obtain ⟨t, hstep, hreceived, hinputs⟩ := step_lastByte hs hg (now_of_inputs hin) h0 hu
      exact ⟨t, core_run_succ 0 hstep, hreceived, by rw [hinputs, hin]; rfl⟩
    | cons c f'' =>
      have hstep := step_byte hs (now_of_inputs hin)
      have hafter : SameReceiver s (endCycle (tookByte b s)) :=
        (SameReceiver.tookByte hs.cyc b).trans (.endCycle rfl)
      obtain ⟨t, hrun, hreceived⟩ := ih (g := g ++ [b]) (by simp) (hs.afterByte b) (hg.take b)
        (congrArg List.tail hin) (h0.trans hafter) (by simpa using hu)
      exact ⟨t, (core_run_succ _ hstep).trans hrun, hreceived⟩

/-- Settles O44: byte by byte the assembler comes to hold the frame, whose class then acts. -/
theorem presentedFrameIsReceived : Obligations.PresentedFrameIsReceived := by
  unfold Obligations.PresentedFrameIsReceived
  intro f s rest hf hin hcyc hen hn hsum hdiscard hst hport hslot
  have hs : Listening s := ⟨hen, hdiscard, hst, hport, hslot, hcyc⟩
  obtain ⟨u, hu, hacted⟩ := exec_frameClass_acted (decodeFrame_class f) hen
  obtain ⟨t, hrun, ⟨hregs, hcnt, hmem⟩, hinputs⟩ :=
    run_frame hf hs (.nil hn hsum) hin (.refl s) (u := u) (by simpa using hu)
  refine ⟨t, u, hrun, hu, hcnt, hregs, fun j hj hfree hheld => ?_, hinputs⟩
  obtain ⟨b, hb⟩ := hacted.rxBuf_written hfree hheld hj
  exact rxBufByte_of_written hmem hb

end Sys2Proof.Machine
end

section
/-! ## The phases of a cycle as one sequence (R403, R411, R602, R603) -/

namespace Sys2Proof.Machine

/-! ### P4 and the arbiter's grant -/

theorem txPhase_of_arbiter {s : State} {g : Option EngKind} (h : (handshake s).arbiter = g) :
    txPhase s = runOpt (g.map decodeGrant) (handshake s) := by
  rw [txPhase, State.grant?, h]

/-- Settles O34: the arbiter's grant, read off the three conditions it tests. -/
theorem transmitPhaseRunsTheGrantedFrame : Obligations.TransmitPhaseRunsTheGrantedFrame := by
  unfold Obligations.TransmitPhaseRunsTheGrantedFrame
  intro s u portOpen prepared
  refine ⟨fun ⟨hidle, hen, herr⟩ hack => ?_, fun ⟨hidle, hen, herr⟩ hack hprep => ?_, fun hnone => ?_⟩
  · exact txPhase_of_arbiter ((arbiter_eq_ack_iff u).2 ⟨hidle, hen, herr, hack⟩)
  · exact txPhase_of_arbiter ((arbiter_eq_data_iff u).2 ⟨hidle, hen, herr, hack, hprep⟩)
  · refine txPhase_of_arbiter (g := none) ?_
    cases hg : u.arbiter with
    | none => rfl
    | some k =>
      cases k with
      | ack =>
        obtain ⟨hidle, hen, herr, hack⟩ := (arbiter_eq_ack_iff u).1 hg
        rcases hnone with hport | ⟨hslot, -⟩
        · exact absurd ⟨hidle, hen, herr⟩ hport
        · simp [hack] at hslot
      | data =>
        obtain ⟨hidle, hen, herr, -, hprep⟩ := (arbiter_eq_data_iff u).1 hg
        rcases hnone with hport | ⟨-, hunprep⟩
        · exact absurd ⟨hidle, hen, herr⟩ hport
        · exact absurd hprep hunprep

/-! ### The step as a sequence -/

theorem andThen_assoc (r : Result) (f g : State → Result) :
    andThen (andThen r f) g = andThen r fun s => andThen (f s) g := by
  cases r <;> rfl

theorem decodeBus_read (a : Addr) (v : Byte) : decodeBus (busWord false a v) = .rd a := by
  simp [decodeBus]

theorem hostWrite?_of_read {s : State} (h : s.now.busWe = false) : s.hostWrite? = none := by
  simp [State.hostWrite?, h]

theorem hostWrite?_of_write {s : State} (h : s.now.busWe = true) :
    s.hostWrite? = some (decodeBus (busWord true s.now.busAddr s.now.busWdata)) := by
  simp [State.hostWrite?, State.busInstr, h]

/-- A cycle without reset is the phases up to P6 and then the end of the cycle (R403). -/
theorem step_of_no_reset {s : State} (h : s.now.rst = false) :
    step s = andThen (afterHost s) fun s6 => .next (endCycle s6) := by
  simp [step, h]

/-- Settles O45: the phases in sequence, with the read port's instruction first and the host's write last. -/
theorem stepRunsTheDecodedBusWord : Obligations.StepRunsTheDecodedBusWord := by
  unfold Obligations.StepRunsTheDecodedBusWord
  intro s hrst
  rw [step_of_no_reset hrst, afterHost, andThen_assoc]
  refine ⟨fun hwrite => ?_, fun hread => ?_⟩
  · rw [hostWrite?_of_write hwrite]
    rfl
  · rw [hostWrite?_of_read hread, decodeBus_read, beforeHost]
    simp only [andThen_assoc, andThen_next, runOpt_none]

/-- The phases up to P6, with P4 and P5 as `beforeWrite`. -/
theorem afterHost_eq (s : State) : afterHost s =
    andThen (receivePhase (transportPhase (startCycle s))) fun s3 => runOpt s.hostWrite? (beforeWrite s3) := by
  simp only [afterHost, beforeHost, exec_rd_beginCycle, andThen_assoc, andThen_next, txPhase_next, beforeWrite]

/-! ### A counter cleared by the host (R407, R658) -/

/-- A write in the counters' address range sets the counter read there to 0, and nothing else (R658). -/
theorem exec_counterWrite {a : Addr} (v : Byte) (s : State) (hlo : 0x020 ≤ a.toNat) (hhi : a.toNat ≤ 0x028) :
    ∃ k, exec (decodeWrite a v) s = .next { s with cnt := k } ∧ ∀ u : State, u.cnt = k → u.read a = 0x00#8 := by
  interval_cases haddr : a.toNat <;> rw [addr_eq_of_toNat haddr] <;>
    exact ⟨_, rfl, fun u hu => by simp [State.read, hu]⟩

/-- Settles O52: the write of P6 comes after every phase that counts, and the end of the cycle counts nothing. -/
theorem counterWriteOverridesTheIncrement : Obligations.CounterWriteOverridesTheIncrement := by
  unfold Obligations.CounterWriteOverridesTheIncrement
  intro s t hrst hwe hlo hhi h
  rcases step_cases h with ⟨hreset, -⟩ | ⟨s3, s6, -, hhost, rfl⟩
  · simp [hrst] at hreset
  · obtain ⟨k, hexec, hread⟩ := exec_counterWrite s.now.busWdata (beforeWrite s3) hlo hhi
    rw [hostWrite?_of_write hwe, decodeBus_write, runOpt_some, hexec] at hhost
    cases hhost
    exact hread _ rfl

end Sys2Proof.Machine
end

section
/-! ## The byte on the TX port (R402, R600, R601) -/

namespace Sys2Proof.Machine

theorem headerBytes_getElem? (h : Header) {i : Nat} (hi : i < 6) :
    (headerBytes h)[i]? = some (headerByte h i) := by
  interval_cases i <;> rfl

/-- The payload the engine streams for its kind of frame (R600). -/
def State.enginePayload (s : State) : List Byte :=
  match s.eng.kind with
  | .data => s.txPayload s.eng.plen.toNat
  | .ack => Config.ackSentinel

theorem engineFrame_eq (s : State) : s.engineFrame = headerBytes s.eng.hdr ++ s.enginePayload := rfl

theorem enginePayload_length {s : State} (hack : s.eng.kind = .ack → s.eng.plen = 0x03#8) :
    s.enginePayload.length = s.eng.plen.toNat := by
  rw [State.enginePayload]
  cases hkind : s.eng.kind with
  | data => exact txPayload_length s _
  | ack =>
    rw [hack hkind]
    rfl

/-- ENGINE_BYTE inside the payload is the payload's byte (R601). -/
theorem enginePayload_getElem? {s : State} (hlo : 6 ≤ s.eng.idx.toNat)
    (hhi : s.eng.idx.toNat - 6 < s.enginePayload.length) :
    s.enginePayload[s.eng.idx.toNat - 6]? = some s.engineByte := by
  cases hkind : s.eng.kind with
  | data =>
    simp only [State.enginePayload, hkind, txPayload_length] at hhi
    simp [State.enginePayload, State.engineByte, State.txPayload, hkind, Nat.not_lt.2 hlo, hhi]
  | ack =>
    simp only [State.enginePayload, hkind] at hhi
    simp [State.enginePayload, State.engineByte, hkind, Nat.not_lt.2 hlo, hhi]

/-- ENGINE_BYTE is the frame's byte at the engine's index (R601). -/
theorem engineFrame_getElem? {s : State} (h : s.eng.idx.toNat < 6 + s.enginePayload.length) :
    s.engineFrame[s.eng.idx.toNat]? = some s.engineByte := by
  have hlen : (headerBytes s.eng.hdr).length = 6 := rfl
  rw [engineFrame_eq]
  by_cases hhdr : s.eng.idx.toNat < 6
  · rw [List.getElem?_append_left (by rw [hlen]; exact hhdr), headerBytes_getElem? _ hhdr]
    simp [State.engineByte, hhdr]
  · rw [List.getElem?_append_right (by rw [hlen]; omega), hlen]
    exact enginePayload_getElem? (by omega) (by omega)

/-- Settles O35: the engine's frame is its header and its payload, of `6 + eng_plen` bytes together. -/
theorem portShowsTheEngineFrameByteByByte : Obligations.PortShowsTheEngineFrameByteByByte := by
  unfold Obligations.PortShowsTheEngineFrameByteByByte
  intro s hbusy hack hidx
  have hplen : s.enginePayload.length = s.eng.plen.toNat := enginePayload_length hack
  have hlen : s.engineFrame.length = 6 + s.eng.plen.toNat := by
    rw [engineFrame_eq, List.length_append, hplen]
    rfl
  refine ⟨hlen, hbusy, ?_, ?_⟩
  · rw [engineFrame_getElem? (by omega), State.portSample, if_pos hbusy]
  · rw [hlen]
    simp only [State.portSample, State.engineAtLast, hbusy, Bool.true_and, beq_iff_eq]
    omega

end Sys2Proof.Machine
end

section
/-! ## What a cycle holds back to its end: the pins, the ports, STATUS and the events (R402, R403, R406) -/

namespace Sys2Proof.Machine

/-- From s to t a cycle has kept its pins, the ports' sample, STATUS and its clear mask, and no event is lost. -/
structure KeepsCycle (s t : State) : Prop where
  inputs : t.inputs = s.inputs
  cycle : t.cycle = s.cycle
  out : t.out = s.out
  status : t.regs.status = s.regs.status
  w1c : t.cyc.w1c = s.cyc.w1c
  events : ∀ i, s.cyc.setmask.getLsbD i = true → t.cyc.setmask.getLsbD i = true

namespace KeepsCycle

theorem of_cyc_eq {s t : State} (hin : t.inputs = s.inputs) (hcycle : t.cycle = s.cycle) (hout : t.out = s.out)
    (hstatus : t.regs.status = s.regs.status) (hcyc : t.cyc = s.cyc) : KeepsCycle s t :=
  ⟨hin, hcycle, hout, hstatus, by rw [hcyc], by simp [hcyc]⟩

theorem of_setmask {s t : State} (m : Byte) (hin : t.inputs = s.inputs) (hcycle : t.cycle = s.cycle)
    (hout : t.out = s.out) (hstatus : t.regs.status = s.regs.status) (hw1c : t.cyc.w1c = s.cyc.w1c)
    (hset : t.cyc.setmask = s.cyc.setmask ||| m) : KeepsCycle s t :=
  ⟨hin, hcycle, hout, hstatus, hw1c, fun i hi => by rw [hset, BitVec.getLsbD_or, hi, Bool.true_or]⟩

theorem refl (s : State) : KeepsCycle s s := .of_cyc_eq rfl rfl rfl rfl rfl

theorem trans {s t u : State} (h1 : KeepsCycle s t) (h2 : KeepsCycle t u) : KeepsCycle s u :=
  ⟨h2.inputs.trans h1.inputs, h2.cycle.trans h1.cycle, h2.out.trans h1.out, h2.status.trans h1.status,
    h2.w1c.trans h1.w1c, fun i hi => h2.events i (h1.events i hi)⟩

theorem now {s t : State} (h : KeepsCycle s t) : t.now = s.now := now_congr h.inputs h.cycle

theorem cmdErr (c : CmdCause) (s : State) : KeepsCycle s (cmdErr c s) := .of_setmask _ rfl rfl rfl rfl rfl rfl

theorem txFail (c : FailCause) (s : State) : KeepsCycle s (txFail c s) := .of_setmask _ rfl rfl rfl rfl rfl rfl

theorem fail (c : FailCause) (s : State) : KeepsCycle s (fail c s) := .of_setmask _ rfl rfl rfl rfl rfl rfl

theorem abortSend (s : State) : KeepsCycle s (abortSend s) := by
  rcases abortSend_cases s with ⟨h, -⟩ | ⟨h, -⟩ | ⟨h, -⟩ <;> rw [h]
  · exact .refl s
  · exact .of_cyc_eq rfl rfl rfl rfl rfl
  · exact .fail _ s

end KeepsCycle

/-! ### P2 to P5 -/

theorem abandonPort_keepsCycle (s : State) : KeepsCycle s (abandonPort s) := .of_setmask _ rfl rfl rfl rfl rfl rfl

theorem transportPhase_keepsCycle (s : State) : KeepsCycle s (transportPhase s) := by
  rcases transportPhase_cases s with h | ⟨h, -⟩ | ⟨h, -⟩ <;> rw [h]
  · exact .refl s
  · exact abandonPort_keepsCycle s
  · exact (abandonPort_keepsCycle s).trans (.fail _ _)

theorem FrameActed.keepsCycle {s u : State} (h : FrameActed s u) : KeepsCycle s u := by
  cases h with
  | none => exact .refl s
  | dropped c => exact .of_setmask 0x08#8 rfl rfl rfl rfl rfl rfl
  | acked h => exact .of_setmask 0#8 rfl rfl rfl rfl rfl (BitVec.or_zero).symm
  | delivered h p _ => exact .of_setmask 0x04#8 (by simp) (by simp) (by simp) (by simp) (by simp) (by simp)

theorem receivePhase_keepsCycle {s t : State} (h : receivePhase s = .next t) : KeepsCycle s t := by
  obtain ⟨a, u, b, heq, -, hacted, -⟩ := receivePhase_cases s
  obtain rfl : { u with asm := b } = t := by simpa [heq] using h
  obtain ⟨hin, hcycle, hout, hstatus, hw1c, hevents⟩ := hacted.keepsCycle
  exact ⟨hin, hcycle, hout, hstatus, hw1c, hevents⟩

theorem finishFrame_keepsCycle (s : State) : KeepsCycle s (finishFrame s) := by
  cases h : s.eng.kind with
  | data =>
    rw [finishFrame, h]
    exact .of_setmask 0#8 rfl rfl rfl rfl rfl (BitVec.or_zero).symm
  | ack =>
    rw [finishFrame, h]
    exact .of_setmask 0x80#8 rfl rfl rfl rfl rfl rfl

theorem handshake_keepsCycle (s : State) : KeepsCycle s (handshake s) := by
  rcases handshake_cases s with ⟨h, -⟩ | ⟨h, -⟩ | ⟨h, -⟩ <;> rw [h]
  · exact .refl s
  · exact .of_cyc_eq rfl rfl rfl rfl rfl
  · exact finishFrame_keepsCycle s

theorem loadGranted_keepsCycle (s : State) : KeepsCycle s (loadGranted s) := by
  rcases loadGranted_cases s with h | ⟨h, -⟩ | ⟨h, -⟩ <;> rw [h] <;> exact .of_cyc_eq rfl rfl rfl rfl rfl

theorem senderPhase_keepsCycle (s : State) : KeepsCycle s (senderPhase s) := by
  rcases senderPhase_cases s with h | ⟨h, -⟩ | ⟨h, -⟩ | ⟨h, -⟩ | ⟨h, -⟩ | ⟨e, h, -⟩ | ⟨e, h, -⟩ | ⟨h, -⟩ |
    ⟨h, -⟩ | ⟨h, -⟩ <;> rw [h]
  case inr.inr.inl => exact .fail _ s
  case inr.inr.inr.inr.inl => exact .of_setmask _ rfl rfl rfl rfl rfl rfl
  case inr.inr.inr.inr.inr.inr.inl => exact .of_setmask _ rfl rfl rfl rfl rfl rfl
  all_goals exact .of_cyc_eq rfl rfl rfl rfl rfl

theorem beforeWrite_keepsCycle (s : State) : KeepsCycle s (beforeWrite s) :=
  ((handshake_keepsCycle s).trans (loadGranted_keepsCycle _)).trans (senderPhase_keepsCycle _)

/-- P2 to P5 together. -/
theorem startCycle_keepsCycle {s s3 : State} (h : receivePhase (transportPhase (startCycle s)) = .next s3) :
    KeepsCycle (startCycle s) (beforeWrite s3) :=
  ((transportPhase_keepsCycle _).trans (receivePhase_keepsCycle h)).trans (beforeWrite_keepsCycle s3)

/-! ### P6 -/

/-- What the row of a host write keeps of the cycle, and of TX_FAIL_CODE while no send is active. -/
structure RowKeepsCycle (i : Instr) (s t : State) : Prop extends KeepsCycle s t where
  failCode : i ≠ .send → s.snd.st.active = false → t.regs.txFailCode = s.regs.txFailCode

theorem RowKeepsCycle.cmdErr (i : Instr) (c : CmdCause) (s : State) : RowKeepsCycle i s (cmdErr c s) :=
  ⟨.cmdErr c s, fun _ _ => rfl⟩

theorem RowKeepsCycle.quiet {i : Instr} {s t : State} (h : KeepsCycle s t)
    (hcode : t.regs.txFailCode = s.regs.txFailCode) : RowKeepsCycle i s t := ⟨h, fun _ _ => hcode⟩

theorem abortSend_rowKeepsCycle (i : Instr) (s : State) : RowKeepsCycle i s (abortSend s) :=
  ⟨.abortSend s, fun _ hst => by rw [abortSend_of_inactive hst]⟩

theorem txLocked_rowKeepsCycle {i : Instr} {s t : State} {f : State → State} (hf : RowKeepsCycle i s (f s))
    (h : txLocked s f = .next t) : RowKeepsCycle i s t := by
  rcases txLocked_cases s f with ⟨heq, -⟩ | ⟨heq, -⟩ <;> rw [heq] at h <;> cases h
  · exact hf
  · exact .cmdErr i _ s

theorem execWrCtrl_rowKeepsCycle {v : Byte} {s t : State} (h : execWrCtrl v s = .next t) :
    RowKeepsCycle (.wrCtrl v) s t := by
  unfold execWrCtrl at h
  simp only at h
  split_ifs at h <;> cases h
  · obtain ⟨⟨hin, hcycle, hout, hstatus, hw1c, hevents⟩, hcode⟩ := abortSend_rowKeepsCycle (.wrCtrl v)
      { s with regs := { s.regs with ctrl := v &&& 0x07#8 }, ack := { s.ack with pend := false } }
    exact ⟨⟨hin, hcycle, hout, hstatus, hw1c, hevents⟩, hcode⟩
  · exact .quiet (.of_cyc_eq rfl rfl rfl rfl rfl) rfl

theorem execSend_keepsCycle {s t : State} (h : execSend s = .next t) : KeepsCycle s t := by
  unfold execSend at h
  split_ifs at h <;> cases h
  · exact .txFail _ s
  · exact .cmdErr _ s
  · exact .cmdErr _ s
  · exact .txFail _ s
  · exact .of_cyc_eq rfl rfl rfl rfl rfl

/-- Each row of a host write but SOFT_RESET and the STATUS write leaves STATUS and its masks to the end of the
cycle, but for events it adds (R406). -/
theorem exec_rowKeepsCycle {i : Instr} {s t : State} (hi : i.isHostWrite = true) (hreset : i ≠ .softReset)
    (hclear : ∀ v, i ≠ .wrStatus v) (h : exec i s = .next t) : RowKeepsCycle i s t := by
  cases i with
  | rd _ | rxTrunc _ | rxBadsum _ _ | rxAck _ | rxData _ _ | txDataFrame | txAckFrame => cases hi
  | softReset => exact absurd rfl hreset
  | wrStatus v => exact absurd rfl (hclear v)
  | wrCtrl v => exact execWrCtrl_rowKeepsCycle h
  | send => exact ⟨execSend_keepsCycle h, fun hne => absurd rfl hne⟩
  | abort =>
    cases h
    exact abortSend_rowKeepsCycle .abort s
  | wrTxMcs _ | wrTxDest _ | wrTxLen _ =>
    simp only [exec, execWrTxMcs, execWrTxDest, execWrTxLen] at h
    exact txLocked_rowKeepsCycle (.quiet (.of_cyc_eq rfl rfl rfl rfl rfl) rfl) h
  | wrTxBuf idx v =>
    simp only [exec, execWrTxBuf] at h
    split_ifs at h
    · cases h
      exact .quiet (.refl s) rfl
    · exact txLocked_rowKeepsCycle (.quiet (.of_cyc_eq rfl rfl rfl rfl rfl) rfl) h
  | wrNodeAddr v =>
    simp only [exec, execWrNodeAddr] at h
    split_ifs at h <;> cases h
    · exact .cmdErr _ _ s
    · exact .quiet (.of_cyc_eq rfl rfl rfl rfl rfl) rfl
  | rxRelease =>
    simp only [exec, execRxRelease] at h
    split_ifs at h <;> cases h
    · exact .cmdErr _ _ s
    · exact .quiet (.of_cyc_eq rfl rfl rfl rfl rfl) rfl
  | rxAccept =>
    simp only [exec, execRxAccept] at h
    split_ifs at h <;> cases h
    · exact .cmdErr _ _ s
    · exact .quiet (.of_cyc_eq rfl rfl rfl rfl rfl) rfl
    · exact .cmdErr _ _ s
    · exact .cmdErr _ _ s
    · exact .quiet (.of_cyc_eq rfl rfl rfl rfl rfl) rfl
  | cmdIllegal _ =>
    cases h
    exact .cmdErr _ _ s
  | wrIrqEn _ | wrAckTimeoutLo _ | wrAckTimeoutHi _ | wrFrameTimeLo _ | wrFrameTimeHi _
  | wrCntTxData _ | wrCntTxAck _ | wrCntRxDeliv _ | wrCntRxCksum _ | wrCntRxTrunc _ | wrCntRxFilt _
  | wrCntRxOverrun _ | wrCntTimeout _ | wrCntRxAck _ | nop | wrIgnored _ _ =>
    cases h
    exact .quiet (.of_cyc_eq rfl rfl rfl rfl rfl) rfl

/-- Everything P6 can do to the cycle: a reset, a clear of STATUS bits, or it keeps it (R406, R655, R662). -/
theorem hostPhase_cycle_cases {s0 s t : State} (h : runOpt s0.hostWrite? s = .next t) :
    (s0.hostWrite? = some .softReset ∧ t = hwReset s) ∨
    (∃ v, s0.hostWrite? = some (.wrStatus v) ∧ t = clearEvents v s) ∨
    ((∀ v, s0.hostWrite? ≠ some (.wrStatus v)) ∧ KeepsCycle s t) := by
  cases hw : s0.hostWrite? with
  | none =>
    rw [hw] at h
    cases h
    exact .inr (.inr ⟨by simp, .refl s⟩)
  | some i =>
    rw [hw, runOpt_some] at h
    by_cases hreset : i = .softReset
    · subst hreset
      cases h
      exact .inl ⟨rfl, rfl⟩
    by_cases hclear : ∃ v, i = .wrStatus v
    · obtain ⟨v, rfl⟩ := hclear
      cases h
      exact .inr (.inl ⟨v, rfl, rfl⟩)
    · have hne : ∀ v, i ≠ .wrStatus v := fun v hv => hclear ⟨v, hv⟩
      exact .inr (.inr ⟨fun v hv => hne v (Option.some.inj hv),
        (exec_rowKeepsCycle (hostWrite?_isHostWrite hw) hreset hne h).toKeepsCycle⟩)

/-- The STATUS write is the one at STATUS's address, with the byte on the bus (R655). -/
theorem hostWrite?_eq_wrStatus_iff (s : State) (v : Byte) :
    s.hostWrite? = some (.wrStatus v) ↔
      s.now.busWe = true ∧ s.now.busAddr = 0x004#10 ∧ s.now.busWdata = v := by
  cases hwe : s.now.busWe with
  | false => simp [hostWrite?_of_read hwe]
  | true =>
    rw [hostWrite?_of_write hwe, decodeBus_write, Option.some_inj]
    refine ⟨fun h => ?_, fun ⟨_, haddr, hdata⟩ => by rw [haddr, hdata]; rfl⟩
    have henc := encode_decodeWrite s.now.busAddr s.now.busWdata
    rw [h] at henc
    have hword : busWord true 0x004#10 v = busWord true s.now.busAddr s.now.busWdata := Encoding.bus.inj henc
    have haddr := congrArg wordAddr hword
    have hdata := congrArg wordData hword
    rw [wordAddr_busWord, wordAddr_busWord] at haddr
    rw [wordData_busWord, wordData_busWord] at hdata
    exact ⟨rfl, haddr.symm, hdata.symm⟩

/-! ### The ports and STATUS -/

/-- The ports keep through a cycle what they show at its start (R411). -/
theorem step_out {s t : State} (h : step s = .next t) : t.out = (startCycle s).out := by
  rcases step_cases h with ⟨-, rfl⟩ | ⟨s3, s6, hrecv, hhost, rfl⟩
  · rfl
  · have hout : s6.out = (beforeWrite s3).out := by
      rcases hostPhase_cycle_cases hhost with ⟨-, rfl⟩ | ⟨v, -, rfl⟩ | ⟨-, hkeep⟩
      · rfl
      · rfl
      · exact hkeep.out
    exact hout.trans (startCycle_keepsCycle hrecv).out

/-- Settles O48: nothing between the ends of a cycle writes the ports' sample. -/
theorem portsShowTheStartOfTheCycle : Obligations.PortsShowTheStartOfTheCycle := by
  unfold Obligations.PortsShowTheStartOfTheCycle
  intro s t h
  rw [step_out h]
  refine ⟨rfl, rfl, rfl, ?_, rfl⟩
  simp [startCycle, State.portSample, State.irq]

/-- Settles O51: STATUS is kept to the end of P6, and of P6's rows only the STATUS write gives a clear mask. -/
theorem statusIsFinalisedFromTheMasks : Obligations.StatusIsFinalisedFromTheMasks := by
  unfold Obligations.StatusIsFinalisedFromTheMasks
  intro s t hrst hsoft h
  rw [step_of_no_reset hrst] at h
  obtain ⟨s6, hafter, hend⟩ := (andThen_eq_next_iff _ _ t).1 h
  cases hend
  obtain ⟨s3, hrecv, hhost⟩ := (andThen_eq_next_iff _ _ s6).1 (afterHost_eq s ▸ hafter)
  have h5 := startCycle_keepsCycle hrecv
  suffices hmask : s6.regs.status = (beforeWrite s3).regs.status ∧
      s6.cyc.w1c = if s.now.busWe ∧ s.now.busAddr = 0x004#10 then s.now.busWdata else 0x00#8 by
    obtain ⟨hstatus, hw1c⟩ := hmask
    have hold : s6.regs.status = s.regs.status := hstatus.trans h5.status
    exact ⟨s6, hafter, by rw [← hold]; rfl, hw1c⟩
  rcases hostPhase_cycle_cases hhost with ⟨hreset, -⟩ | ⟨v, hclear, rfl⟩ | ⟨hnone, hkeep⟩
  · exact absurd hreset hsoft
  · obtain ⟨hwe, haddr, hdata⟩ := (hostWrite?_eq_wrStatus_iff s v).1 hclear
    exact ⟨rfl, by rw [if_pos ⟨hwe, haddr⟩, hdata]; rfl⟩
  · have hother : ¬(s.now.busWe ∧ s.now.busAddr = 0x004#10) := fun ⟨hwe, haddr⟩ =>
      hnone _ ((hostWrite?_eq_wrStatus_iff s _).2 ⟨hwe, haddr, rfl⟩)
    exact ⟨hkeep.status, by rw [if_neg hother, hkeep.w1c, h5.w1c]; rfl⟩

end Sys2Proof.Machine
end

section
/-! ## The transport error (R405, R501, R514) -/

namespace Sys2Proof.Machine

/-! ### P2 -/

theorem transportPhase_of_inactive {s : State} (herr : s.now.chanErr = true) (hst : s.snd.st.active = false) :
    transportPhase s = abandonPort s := by
  have heq : transportPhase s = transportAbort (abandonPort s) := transportPhase_error s herr
  have hst2 : (abandonPort s).snd.st.active = false := hst
  rcases transportAbort_cases (abandonPort s) with ⟨habort, -⟩ | ⟨-, hactive⟩
  · rw [heq, habort]
  · simp [hst2] at hactive

theorem transportPhase_of_active {s : State} (herr : s.now.chanErr = true) (hst : s.snd.st.active = true) :
    transportPhase s = fail .transportUnavailable (abandonPort s) := by
  have heq : transportPhase s = transportAbort (abandonPort s) := transportPhase_error s herr
  have hst2 : (abandonPort s).snd.st.active = true := hst
  rcases transportAbort_cases (abandonPort s) with ⟨-, hinactive⟩ | ⟨habort, -⟩
  · simp [hst2] at hinactive
  · rw [heq, habort]

/-- What a transport error leaves behind in P2 for the rest of its cycle: the event, an idle port and no active
send. -/
structure PortDown (s : State) : Prop where
  error : s.now.chanErr = true
  port : s.eng.busy = false
  sender : s.snd.st.active = false
  event : s.cyc.setmask.getLsbD 6 = true

/-- What it leaves behind of a send that was active: TransportUnavailable and TX_FAIL (R514). -/
structure SendFailed (s : State) : Prop where
  code : s.regs.txFailCode = 2#8
  event : s.cyc.setmask.getLsbD 1 = true

theorem abandonPort_event (s : State) : (abandonPort s).cyc.setmask.getLsbD 6 = true := by
  have hbit : (0x40#8).getLsbD 6 = true := rfl
  simp only [abandonPort, BitVec.getLsbD_or, hbit, Bool.or_true]

theorem fail_event (c : FailCause) (s : State) : (fail c s).cyc.setmask.getLsbD 1 = true := by
  have hbit : (0x02#8).getLsbD 1 = true := rfl
  simp only [fail_cyc, BitVec.getLsbD_or, hbit, Bool.or_true]

theorem transportPhase_portDown {s : State} (herr : s.now.chanErr = true) : PortDown (transportPhase s) := by
  cases hst : s.snd.st.active with
  | false =>
    rw [transportPhase_of_inactive herr hst]
    exact ⟨herr, abandonPort_busy s, hst, abandonPort_event s⟩
  | true =>
    rw [transportPhase_of_active herr hst]
    exact ⟨herr, abandonPort_busy s, rfl, (KeepsCycle.fail _ _).events 6 (abandonPort_event s)⟩

theorem transportPhase_sendFailed {s : State} (herr : s.now.chanErr = true) (hst : s.snd.st.active = true) :
    SendFailed (transportPhase s) := by
  rw [transportPhase_of_active herr hst]
  exact ⟨rfl, fail_event _ _⟩

/-! ### P3 to P5 -/

theorem receivePhase_portDown {s t : State} (h : receivePhase s = .next t) (hs : PortDown s) : PortDown t := by
  have hkeep := receivePhase_keepsCycle h
  have hrecv := receivePhase_receiverOnly h
  exact ⟨by rw [hkeep.now]; exact hs.error, by rw [hrecv.eng]; exact hs.port, by rw [hrecv.snd]; exact hs.sender,
    hkeep.events 6 hs.event⟩

theorem FrameActed.failCode {s u : State} (h : FrameActed s u) : u.regs.txFailCode = s.regs.txFailCode := by
  cases h <;> simp

theorem receivePhase_failCode {s t : State} (h : receivePhase s = .next t) :
    t.regs.txFailCode = s.regs.txFailCode := by
  obtain ⟨a, u, b, heq, -, hacted, -⟩ := receivePhase_cases s
  obtain rfl : { u with asm := b } = t := by simpa [heq] using h
  exact hacted.failCode

/-- Without an active send P5 at most takes Delivered to Idle (R511). -/
theorem senderPhase_of_inactive {s : State} (hst : s.snd.st.active = false) :
    (senderPhase s).snd.st = .idle ∧ (senderPhase s).eng = s.eng ∧ (senderPhase s).regs = s.regs := by
  cases h : s.snd.st with
  | idle =>
    rw [senderPhase_idle h]
    exact ⟨h, rfl, rfl⟩
  | delivered => simp [senderPhase, h]
  | sending | awaitingAck | backingOff => simp [h, SenderState.active] at hst

/-- With the port down P4 moves no byte and grants nothing (R602, R603). -/
theorem PortDown.beforeWrite_eq {s : State} (hs : PortDown s) : beforeWrite s = senderPhase s := by
  have hshake : handshake s = s := by simp [handshake, hs.port]
  have hload : loadGranted s = s := by simp [loadGranted, State.arbiter, hs.error]
  rw [beforeWrite, hshake, hload]

/-! ### P6 -/

/-- No host write loads the engine (R603). -/
theorem HostWrote.port {i : Instr} {s t : State} (hw : HostWrote i s t) (hport : s.eng.busy = false) :
    t.eng.busy = false := by
  cases hw with
  | reset => rfl
  | disabled => rw [disable_eq, abortSend_eng]; exact hport
  | aborted => rw [abortSend_eng]; exact hport
  | plain _ _ _ hp => rw [hp.frame]; exact hport
  | stored | buffer | started => exact hport

/-- A host write leaves an Idle sender Idle, but for the accepted SEND (R501). -/
theorem HostWrote.idle {i : Instr} {s t : State} (hw : HostWrote i s t) (hst : s.snd.st = .idle) :
    t.snd.st = .idle ∨ (i = .send ∧ t = startSend s) := by
  have hinactive : s.snd.st.active = false := by rw [hst]; rfl
  cases hw with
  | reset => exact .inl rfl
  | disabled => exact .inl (by rw [disable_of_inactive (by exact hinactive)]; exact hst)
  | aborted => exact .inl (by rw [abortSend_of_inactive hinactive]; exact hst)
  | plain _ _ _ hp => exact .inl (by rw [hp.frame]; exact hst)
  | started => exact .inr ⟨rfl, rfl⟩
  | stored | buffer => exact .inl hst

theorem hostPhase_port {s0 s t : State} (h : runOpt s0.hostWrite? s = .next t) (hport : s.eng.busy = false) :
    t.eng.busy = false := by
  rcases hostPhase_cases h with rfl | ⟨i, -, hw⟩
  · exact hport
  · exact hw.port hport

/-- While the transport is unavailable a SEND is refused (R501). -/
theorem hostPhase_idle {s0 s t : State} (h : runOpt s0.hostWrite? s = .next t) (hst : s.snd.st = .idle)
    (herr : s.now.chanErr = true) : t.snd.st = .idle := by
  rcases hostPhase_cases h with rfl | ⟨i, hi, hw⟩
  · exact hst
  · rcases hw.idle hst with hidle | ⟨rfl, rfl⟩
    · exact hidle
    · rw [hi, runOpt_some] at h
      have hup : s.now.chanErr = false := (exec_send_started hst h).1
      simp [herr] at hup

/-- P6 without a reset keeps SEQ (R110). -/
theorem hostPhase_seq {s0 s t : State} (h : runOpt s0.hostWrite? s = .next t)
    (hsoft : s0.hostWrite? ≠ some .softReset) : t.regs.seq = s.regs.seq := by
  rcases hostPhase_cases h with rfl | ⟨i, hi, hw⟩
  · rfl
  · exact hw.seq.resolve_right fun ⟨hreset, _⟩ => hsoft (by rw [hi, hreset])

/-- P6 without a reset loses no event. -/
theorem hostPhase_events {s0 s t : State} (h : runOpt s0.hostWrite? s = .next t)
    (hsoft : s0.hostWrite? ≠ some .softReset) {j : Nat} (hj : s.cyc.setmask.getLsbD j = true) :
    t.cyc.setmask.getLsbD j = true := by
  rcases hostPhase_cycle_cases h with ⟨hreset, -⟩ | ⟨v, -, rfl⟩ | ⟨-, hkeep⟩
  · exact absurd hreset hsoft
  · exact hj
  · exact hkeep.events j hj

/-- A SEND refused with TransportUnavailable writes the code a failed send has already (R501, R514). -/
theorem hostPhase_failCode {s0 s t : State} (h : runOpt s0.hostWrite? s = .next t)
    (hsoft : s0.hostWrite? ≠ some .softReset) (hst : s.snd.st = .idle) (herr : s.now.chanErr = true)
    (hcode : s.regs.txFailCode = 2#8) : t.regs.txFailCode = 2#8 := by
  cases hw : s0.hostWrite? with
  | none =>
    rw [hw] at h
    cases h
    exact hcode
  | some i =>
    rw [hw, runOpt_some] at h
    by_cases hsend : i = .send
    · subst hsend
      have hrefused : exec .send s = .next (txFail .transportUnavailable s) := by simp [exec, execSend, herr]
      cases hrefused.symm.trans h
      rfl
    by_cases hclear : ∃ v, i = .wrStatus v
    · obtain ⟨v, rfl⟩ := hclear
      cases h
      exact hcode
    · have hrow : RowKeepsCycle i s t := exec_rowKeepsCycle (hostWrite?_isHostWrite hw)
        (fun hreset => hsoft (by rw [hw, hreset])) (fun v hv => hclear ⟨v, hv⟩) h
      exact (hrow.failCode hsend (by rw [hst]; rfl)).trans hcode

/-! ### The step -/

/-- Where a transport error leaves the cycle before the host's write. -/
theorem beforeWrite_error {s s3 : State} (herr : s.now.chanErr = true)
    (hrecv : receivePhase (transportPhase (startCycle s)) = .next s3) :
    (beforeWrite s3).snd.st = .idle ∧ (beforeWrite s3).eng.busy = false ∧
      (beforeWrite s3).cyc.setmask.getLsbD 6 = true ∧ (s.snd.st.active = true → SendFailed (beforeWrite s3)) := by
  have hdown : PortDown s3 := receivePhase_portDown hrecv (transportPhase_portDown herr)
  have hevents := (beforeWrite_keepsCycle s3).events
  obtain ⟨hidle, heng, hregs⟩ := senderPhase_of_inactive hdown.sender
  rw [← hdown.beforeWrite_eq] at hidle heng hregs
  refine ⟨hidle, by rw [heng]; exact hdown.port, hevents 6 hdown.event, fun hactive => ?_⟩
  have hfailed : SendFailed (transportPhase (startCycle s)) := transportPhase_sendFailed herr hactive
  exact ⟨by rw [hregs, receivePhase_failCode hrecv]; exact hfailed.code,
    hevents 1 ((receivePhase_keepsCycle hrecv).events 1 hfailed.event)⟩

/-- An event of the cycle stands in STATUS at its end, whatever the host clears (R406). -/
theorem endCycle_status_of_event {s : State} {j : Nat} (h : s.cyc.setmask.getLsbD j = true) :
    (endCycle s).regs.status.getLsbD j = true := by
  rw [endCycle_regs, finalStatus, BitVec.getLsbD_or, h, Bool.or_true]

/-- A cycle that has the sender Idle before the host's write has not advanced SEQ (R517). -/
theorem beforeWrite_seq_of_idle {s s3 : State} (hrecv : receivePhase (transportPhase (startCycle s)) = .next s3)
    (hidle : (beforeWrite s3).snd.st = .idle) : (beforeWrite s3).regs.seq = s.regs.seq := by
  rcases beforeWrite_seq hrecv with hseq | ⟨-, -, hdeliv⟩
  · exact hseq
  · simp [hidle] at hdeliv

/-- Settles O53: P2's two cases, and what of them P3 to P6 carry to the end of the cycle. -/
theorem transportErrorEndsTheSend : Obligations.TransportErrorEndsTheSend := by
  unfold Obligations.TransportErrorEndsTheSend
  refine ⟨fun s => ⟨transportPhase_quiet s, transportPhase_of_inactive, fun herr hst => ?_⟩,
    fun s t hrst herr h => ?_⟩
  · have hmask : s.cyc.setmask ||| 0x40#8 ||| 0x02#8 = s.cyc.setmask ||| 0x42#8 := BitVec.or_assoc _ _ _
    rw [transportPhase_of_active herr hst, ← hmask]
    rfl
  · rcases step_cases h with ⟨hreset, -⟩ | ⟨s3, s6, hrecv, hhost, rfl⟩
    · simp [hrst] at hreset
    obtain ⟨hidle, hport, hevent, hfailed⟩ := beforeWrite_error herr hrecv
    have herr5 : (beforeWrite s3).now.chanErr = true := by rw [(startCycle_keepsCycle hrecv).now]; exact herr
    have hidle6 : s6.snd.st = .idle := hostPhase_idle hhost hidle herr5
    have hport6 : s6.eng.busy = false := hostPhase_port hhost hport
    refine ⟨hidle6, hport6, fun hsoft => ⟨?_, ?_, fun hactive => ⟨?_, ?_⟩⟩⟩
    · exact endCycle_status_of_event (hostPhase_events hhost hsoft hevent)
    · exact (hostPhase_seq hhost hsoft).trans (beforeWrite_seq_of_idle hrecv hidle)
    · exact endCycle_status_of_event (hostPhase_events hhost hsoft (hfailed hactive).event)
    · have hcode6 : s6.regs.txFailCode = 2#8 := hostPhase_failCode hhost hsoft hidle herr5 (hfailed hactive).code
      exact hcode6

end Sys2Proof.Machine
end

section
/-! ## The frame codec (R451 to R460) and the byte stream the assembler takes (R462, R550) -/

namespace Sys2Proof.Machine

/-! ### Streaming through the assembler -/

theorem foldl_take_discard (f : List Byte) (a : Assembler) : (f.foldl Assembler.take a).discard = a.discard := by
  induction f generalizing a with
  | nil => rfl
  | cons b rest ih => rw [List.foldl_cons, ih, Assembler.take_discard]

/-- Settles O40: an empty assembler holds the empty list, and each byte taken is one more byte held. -/
theorem streamingAssemblesTheFrame : Obligations.StreamingAssemblesTheFrame := by
  unfold Obligations.StreamingAssemblesTheFrame
  intro a f hn hsum
  have hholds : (f.foldl Assembler.take a).Holds f := (Assembler.Holds.nil hn hsum).foldl_take f
  exact ⟨hholds.count, hholds.sum, hholds.header, hholds.staged, foldl_take_discard f a⟩

/-! ### ENCODE, DECODE and BUILD_ACK -/

/-- Settles O5: ENCODE gives the wire bytes of the frame with the given fields, which DECODE takes apart. -/
theorem encodedFrameDecodesAndValidates : Obligations.EncodedFrameDecodesAndValidates := by
  unfold Obligations.EncodedFrameDecodesAndValidates
  intro m s d a p hpos hlen
  have hlenByte : (BitVec.ofNat 8 p.length).toNat = p.length := by
    rw [BitVec.toNat_ofNat]
    omega
  exact ⟨_, _, encodeFrame_bytes m s d a hpos hlen, decodeBytes_frameBytes _, rfl, rfl, hlenByte, rfl, rfl, rfl,
    rfl, rfl, (validate_eq_true_iff _ _).2 rfl⟩

/-- The error condition of ENCODE (R453). -/
theorem encodeFrame_error_iff (mcs seq dest src : Nat) (p : List Byte) :
    encodeFrame mcs seq dest src p = .error .invalidFieldRange ↔
      (255 < mcs ∨ 255 < seq ∨ 255 < dest ∨ 255 < src ∨ p.length = 0 ∨ 255 < p.length) := by
  have hmin : Config.minTxPayload = 1 := rfl
  have hmax : Config.maxPayload = 255 := rfl
  rw [encodeFrame]
  by_cases hfields : mcs > 255 ∨ seq > 255 ∨ dest > 255 ∨ src > 255
  · rw [if_pos hfields]
    exact iff_of_true rfl (by omega)
  · rw [if_neg hfields]
    by_cases hlen : p.length < Config.minTxPayload ∨ p.length > Config.maxPayload
    · rw [if_pos hlen]
      exact iff_of_true rfl (by omega)
    · rw [if_neg hlen]
      exact iff_of_false nofun (by omega)

theorem decodeBytes_short {f : List Byte} (h : f.length < 6) : decodeBytes f = .error .truncatedHeader := by
  match f with
  | [] | [_] | [_, _] | [_, _, _] | [_, _, _, _] | [_, _, _, _, _] => rfl
  | _ :: _ :: _ :: _ :: _ :: _ :: p => exact absurd h (by simp)

/-- A byte string with a whole header is the wire form of a frame (R300, R454). -/
theorem exists_frame_of_length {f : List Byte} (h : 6 ≤ f.length) : ∃ fr, f = frameBytes fr := by
  rcases frame_cases f with hshort | ⟨hdr, p, hf⟩
  · omega
  · exact ⟨⟨hdr, p⟩, hf⟩

/-- Settles O6: ENCODE's two range checks, and DECODE by whether the header is whole. -/
theorem codecErrorsAreExact : Obligations.CodecErrorsAreExact := by
  unfold Obligations.CodecErrorsAreExact
  refine ⟨encodeFrame_error_iff, fun f => ⟨decodeBytes_short, fun hlen => ?_⟩⟩
  obtain ⟨fr, rfl⟩ := exists_frame_of_length hlen
  exact ⟨fr, decodeBytes_frameBytes fr, rfl, rfl, rfl, rfl, rfl, rfl, rfl, rfl⟩

/-- The length byte and the sentinel's three bytes add the constant 207 to an ack's checksum (R458). -/
theorem checksum_ack (m s d a : Byte) : checksum m 0x03#8 s d a Config.ackSentinel =
    BitVec.ofNat 8 (m.toNat + 3 + s.toNat + d.toNat + a.toNat + 207) := by
  simp [checksum, Config.ackSentinel, sumBytes]

/-- Settles O8: ENCODE of the sentinel with the addresses swapped, whose checksum is right. -/
theorem builtAckHasTheWireForm : Obligations.BuiltAckHasTheWireForm := by
  unfold Obligations.BuiltAckHasTheWireForm
  intro fr node c
  have hsum : checksum fr.hdr.mcs 0x03#8 fr.hdr.seq fr.hdr.src node Config.ackSentinel = c := checksum_ack _ _ _ _
  have hvalid : validate ⟨⟨fr.hdr.mcs, 0x03#8, fr.hdr.seq, fr.hdr.src, node, c⟩, Config.ackSentinel⟩ = true :=
    (validate_eq_true_iff _ _).2 hsum
  have hdecode := decodeFrame_ack hvalid
  refine ⟨?_, hdecode⟩
  rw [← hsum]
  exact encodeFrame_bytes fr.hdr.mcs fr.hdr.seq fr.hdr.src node (p := Config.ackSentinel) (by decide) (by decide)

/-! ### A changed byte (R460)

VALIDATE compares byte 5 of the wire form with the sum of all the others modulo 256, so a change of any one byte,
a flipped bit in particular, upsets the comparison. -/

/-- VALIDATE on the wire form: byte 5 is the sum of the others (R455). -/
theorem validate_iff_coveredSum (fr : Frame) :
    validate fr = true ↔ (frameBytes fr)[5]? = some (BitVec.ofNat 8 (coveredSum (frameBytes fr))) := by
  have hcovered : coveredSum (frameBytes fr) =
      fr.hdr.mcs.toNat + fr.hdr.len.toNat + fr.hdr.seq.toNat + fr.hdr.dest.toNat + fr.hdr.src.toNat +
        sumBytes fr.payload := by
    simp [coveredSum, frameBytes, headerBytes, sumBytes, Nat.add_assoc]
  have hcksum : (frameBytes fr)[5]? = some fr.hdr.cksum := rfl
  rw [validate_eq_true_iff, hcovered, hcksum, Option.some_inj, eq_comm]
  rfl

theorem sumBytes_set (f : List Byte) {i : Nat} (b : Byte) (hi : i < f.length) :
    sumBytes (f.set i b) + f[i].toNat = sumBytes f + b.toNat := by
  induction f generalizing i with
  | nil => simp at hi
  | cons x rest ih =>
    cases i with
    | zero =>
      simp only [List.set_cons_zero, List.getElem_cons_zero, sumBytes]
      omega
    | succ k =>
      have htail := ih (i := k) (by simpa using hi)
      simp only [List.set_cons_succ, List.getElem_cons_succ, sumBytes]
      omega

/-- Byte 5 is not covered (R451). -/
theorem coveredSum_set_cksum (f : List Byte) (b : Byte) : coveredSum (f.set 5 b) = coveredSum f := by
  rw [coveredSum, coveredSum, List.take_set_of_le (by omega), List.drop_set_of_lt (by omega)]

/-- Every other byte is covered once (R451). -/
theorem coveredSum_set {f : List Byte} {i : Nat} (b : Byte) (hi : i < f.length) (hne : i ≠ 5) :
    coveredSum (f.set i b) + f[i].toNat = coveredSum f + b.toNat := by
  rcases lt_or_gt_of_ne hne with hlt | hgt
  · have hset := sumBytes_set (f.take 5) b (i := i) (by simp; omega)
    rw [List.getElem_take] at hset
    rw [coveredSum, coveredSum, List.take_set, List.drop_set_of_lt (by omega)]
    omega
  · have hset := sumBytes_set (f.drop 6) b (i := i - 6) (by simp; omega)
    have hplace : 6 + (i - 6) = i := by omega
    simp only [List.getElem_drop, hplace] at hset
    rw [coveredSum, coveredSum, List.take_set_of_le (by omega), List.drop_set, if_neg (by omega)]
    omega

/-- Two bytes that add the same to a sum modulo 256 are equal. -/
theorem byte_eq_of_sums {x y : Byte} {m n : Nat} (h : m + x.toNat = n + y.toNat)
    (hmod : BitVec.ofNat 8 m = BitVec.ofNat 8 n) : x = y := by
  have hsum : BitVec.ofNat 8 (m + x.toNat) = BitVec.ofNat 8 (n + y.toNat) := congrArg _ h
  simpa [BitVec.ofNat_add, hmod] using hsum

/-- A frame that differs from a valid one in one byte of its wire form is not valid. -/
theorem validate_of_changed_byte {fr fr' : Frame} {i : Nat} {b : Byte} (hvalid : validate fr = true)
    (hi : i < (frameBytes fr).length) (hb : b ≠ (frameBytes fr)[i])
    (hset : frameBytes fr' = (frameBytes fr).set i b) : validate fr' = false := by
  refine Bool.eq_false_iff.2 fun hvalid' => hb ?_
  rw [validate_iff_coveredSum] at hvalid hvalid'
  rw [hset] at hvalid'
  by_cases hfive : i = 5
  · subst hfive
    rw [List.getElem?_set_self hi, coveredSum_set_cksum, ← hvalid, List.getElem?_eq_getElem hi] at hvalid'
    exact Option.some.inj hvalid'
  · rw [List.getElem?_set_ne hfive, hvalid] at hvalid'
    exact (byte_eq_of_sums (coveredSum_set b hi hfive) (Option.some.inj hvalid').symm).symm

/-- Flipping a bit of a byte changes it. -/
theorem xor_bit_ne (x : Byte) {j : Nat} (hj : j < 8) : x ^^^ BitVec.ofNat 8 (2 ^ j) ≠ x := by
  have hbit : BitVec.ofNat 8 (2 ^ j) ≠ 0#8 := by
    interval_cases j <;> decide
  simpa using hbit

/-- Settles O7: a flipped bit changes one byte, and a valid frame with one byte changed is not valid. -/
theorem singleBitFlipsAreDetected : Obligations.SingleBitFlipsAreDetected := by
  unfold Obligations.SingleBitFlipsAreDetected
  intro fr i j hvalid hi hj
  obtain ⟨fr', hset⟩ : ∃ fr',
      (frameBytes fr).set i ((frameBytes fr).getD i 0#8 ^^^ BitVec.ofNat 8 (2 ^ j)) = frameBytes fr' :=
    exists_frame_of_length (by rw [List.length_set]; exact Nat.le_add_left 6 fr.payload.length)
  have hflip : (frameBytes fr).getD i 0#8 ^^^ BitVec.ofNat 8 (2 ^ j) ≠ (frameBytes fr)[i] := by
    rw [List.getD_eq_getElem _ _ hi]
    exact xor_bit_ne _ hj
  exact ⟨fr', by rw [hset, decodeBytes_frameBytes], validate_of_changed_byte hvalid hi hflip hset.symm⟩

end Sys2Proof.Machine
end

section
/-! ## The sender (R500 to R512): SEND and ABORT, and the step of P5 in each of its states -/

namespace Sys2Proof.Machine

/-! ### SEND (R501): the four checks in order, then the send -/

theorem exec_send_of_error {s : State} (herr : s.now.chanErr = true) :
    exec .send s = .next (txFail .transportUnavailable s) := if_pos herr

theorem exec_send_of_disabled {s : State} (herr : s.now.chanErr = false) (hen : s.enable = false) :
    exec .send s = .next (cmdErr .disabled s) := by
  simp [exec, execSend, herr, hen]

theorem exec_send_of_busy {s : State} (herr : s.now.chanErr = false) (hen : s.enable = true)
    (hst : s.snd.st ≠ .idle) : exec .send s = .next (cmdErr .busy s) := by
  simp [exec, execSend, herr, hen, hst]

theorem exec_send_of_empty {s : State} (herr : s.now.chanErr = false) (hen : s.enable = true)
    (hst : s.snd.st = .idle) (hlen : s.regs.txLen = 0x00#8) :
    exec .send s = .next (txFail .invalidFieldRange s) := by
  simp [exec, execSend, herr, hen, hst, hlen]

theorem exec_send_of_accepted {s : State} (herr : s.now.chanErr = false) (hen : s.enable = true)
    (hst : s.snd.st = .idle) (hlen : s.regs.txLen ≠ 0x00#8) : exec .send s = .next (startSend s) := by
  simp [exec, execSend, herr, hen, hst, hlen]

/-- Settles O21: the checks pass, and the sum SEND starts with is that of the header and no payload. -/
theorem sendStartsTheTransmission : Obligations.SendStartsTheTransmission := by
  unfold Obligations.SendStartsTheTransmission
  intro s herr hen hst hlen
  exact exec_send_of_accepted herr hen hst hlen

/-- Settles O22: each check fails after the earlier ones have passed. -/
theorem sendReportsItsFirstFailedCheck : Obligations.SendReportsItsFirstFailedCheck := by
  unfold Obligations.SendReportsItsFirstFailedCheck
  intro s
  exact ⟨exec_send_of_error, exec_send_of_disabled, exec_send_of_busy, exec_send_of_empty⟩

/-! ### ABORT (R512) -/

theorem streamingData_iff (s : State) :
    s.streamingData = true ↔ s.snd.started = true ∧ s.eng.busy = true ∧ s.eng.kind = .data := by
  simp [State.streamingData, and_assoc]

/-- While the data frame streams the abort waits for the frame's end. -/
theorem abortSend_of_streaming {s : State} (hst : s.snd.st = .sending) (hstream : s.streamingData = true) :
    abortSend s = { s with snd := { s.snd with abortPend := true } } := by
  simp [abortSend, hst, hstream]

/-- An active send that streams no data frame ends at once. -/
theorem abortSend_of_notStreaming {s : State} (hactive : s.snd.st.active = true)
    (hstream : ¬(s.snd.st = .sending ∧ s.streamingData = true)) : abortSend s = fail .aborted s := by
  rcases abortSend_cases s with ⟨-, hinactive⟩ | ⟨-, hst, hs⟩ | ⟨heq, -⟩
  · simp [hinactive] at hactive
  · exact absurd ⟨hst, hs⟩ hstream
  · exact heq

/-- Settles O23: no active send, an active one that streams its data frame, an active one that does not. -/
theorem abortEndsOrMarksTheSend : Obligations.AbortEndsOrMarksTheSend := by
  unfold Obligations.AbortEndsOrMarksTheSend
  intro s
  refine ⟨fun hst => ?_, fun hst hstart hbusy hkind => ?_, fun h => ?_⟩
  · have hinactive : s.snd.st.active = false := by rcases hst with hst | hst <;> rw [hst] <;> rfl
    exact congrArg Host.Outcome.next (abortSend_of_inactive hinactive)
  · have hstream : s.streamingData = true := (streamingData_iff s).2 ⟨hstart, hbusy, hkind⟩
    exact congrArg Host.Outcome.next (abortSend_of_streaming hst hstream)
  · have hends : s.snd.st.active = true ∧ ¬(s.snd.st = .sending ∧ s.streamingData = true) := by
      rw [streamingData_iff]
      rcases h with ⟨hst, hoff⟩ | hst | hst
      · refine ⟨by rw [hst]; rfl, fun ⟨_, hstart, hbusy, hkind⟩ => ?_⟩
        simp [hstart, hbusy, hkind] at hoff
      · simp [hst, SenderState.active]
      · simp [hst, SenderState.active]
    exact congrArg Host.Outcome.next (abortSend_of_notStreaming hends.1 hends.2)

/-! ### P5 in each state -/

theorem senderPhase_preparing {s : State} (hst : s.snd.st = .sending) (hready : s.snd.frameReady = false) :
    senderPhase s = checksumPass s := by
  simp [senderPhase, hst, hready]

theorem senderPhase_prepared {s : State} (hst : s.snd.st = .sending) (hready : s.snd.frameReady = true) :
    senderPhase s = sendingStep s := by
  simp [senderPhase, hst, hready]

theorem senderPhase_awaitingAck {s : State} (hst : s.snd.st = .awaitingAck) : senderPhase s = awaitingStep s := by
  simp [senderPhase, hst]

theorem senderPhase_delivered {s : State} (hst : s.snd.st = .delivered) : senderPhase s = goIdle s := by
  simp [senderPhase, hst]

theorem senderPhase_backingOff {s : State} (hst : s.snd.st = .backingOff) : senderPhase s = backingOffStep s := by
  simp [senderPhase, hst]

/-! ### Sending with the frame ready (R503) and BackingOff (R510) -/

theorem sendingStep_of_running {s : State} (hdone : s.cyc.txDone ≠ some .data) : sendingStep s = s := if_neg hdone

theorem sendingStep_of_ended {s : State} (hdone : s.cyc.txDone = some .data) (habort : s.snd.abortPend = false) :
    sendingStep s = { s with snd := { s.snd with st := .awaitingAck, elapsed := 0 } } := by
  simp [sendingStep, hdone, habort]

theorem sendingStep_of_aborted {s : State} (hdone : s.cyc.txDone = some .data) (habort : s.snd.abortPend = true) :
    sendingStep s = fail .aborted s := by
  simp [sendingStep, hdone, habort]

theorem backingOffStep_of_over {s : State} (hrem : s.snd.remaining = 0) :
    backingOffStep s = { s with snd := { s.snd with st := .sending } } := if_pos hrem

theorem backingOffStep_of_tick {s : State} (hrem : s.snd.remaining ≠ 0) (htick : s.now.tick = true) :
    backingOffStep s =
      { s with snd := { s.snd with remaining := BitVec.ofNat 26 (s.snd.remaining.toNat - 1) } } := by
  have hpred : s.snd.remaining - 1 = BitVec.ofNat 26 (s.snd.remaining.toNat - 1) := by bv_omega
  rw [← hpred, backingOffStep, if_neg hrem, if_pos htick]

theorem backingOffStep_of_noTick {s : State} (hrem : s.snd.remaining ≠ 0) (htick : s.now.tick = false) :
    backingOffStep s = s := by
  rw [backingOffStep, if_neg hrem, if_neg (by simp [htick])]

/-- Settles O38: the steps of Sending and BackingOff by their tests, and the way out of Delivered. -/
theorem senderPhaseInItsOtherStates : Obligations.SenderPhaseInItsOtherStates := by
  unfold Obligations.SenderPhaseInItsOtherStates
  intro s
  refine ⟨?_, ?_, ?_, ?_, ?_, ?_, senderPhase_delivered, senderPhase_idle⟩
  · intro hst hready hdone
    rw [senderPhase_prepared hst hready, sendingStep_of_running hdone]
  · intro hst hready hdone habort
    rw [senderPhase_prepared hst hready, sendingStep_of_ended hdone habort]
  · intro hst hready hdone habort
    rw [senderPhase_prepared hst hready, sendingStep_of_aborted hdone habort]
    rfl
  · intro hst hrem
    rw [senderPhase_backingOff hst, backingOffStep_of_over hrem]
  · intro hst hrem htick
    rw [senderPhase_backingOff hst, backingOffStep_of_tick hrem htick]
  · intro hst hrem htick
    rw [senderPhase_backingOff hst, backingOffStep_of_noTick hrem htick]

/-! ### AwaitingAck (R504) -/

/-- A match wins over the cycle's tick. -/
theorem awaitingStep_of_match {s : State} (hmatch : s.cyc.ackMatch = true) : awaitingStep s = acceptAck s :=
  if_pos hmatch

theorem awaitingStep_of_noTick {s : State} (hmatch : s.cyc.ackMatch = false) (htick : s.now.tick = false) :
    awaitingStep s = s := by
  simp [awaitingStep, hmatch, htick]

theorem awaitingStep_of_earlyTick {s : State} (hmatch : s.cyc.ackMatch = false) (htick : s.now.tick = true)
    (hearly : s.snd.elapsed.toNat + 1 < s.toEff) :
    awaitingStep s = { s with snd := { s.snd with elapsed := BitVec.ofNat 16 (s.snd.elapsed.toNat + 1) } } := by
  simp [awaitingStep, hmatch, htick, hearly.not_ge]

theorem awaitingStep_of_lastTick {s : State} (hmatch : s.cyc.ackMatch = false) (htick : s.now.tick = true)
    (hlast : s.toEff ≤ s.snd.elapsed.toNat + 1) :
    awaitingStep s =
      timeout { s with snd := { s.snd with elapsed := BitVec.ofNat 16 (s.snd.elapsed.toNat + 1) } } := by
  simp [awaitingStep, hmatch, htick, hlast]

/-- Settles O37: the match first, then the tick, then the test against TO_eff. -/
theorem awaitingAckDeliversOrCounts : Obligations.AwaitingAckDeliversOrCounts := by
  unfold Obligations.AwaitingAckDeliversOrCounts
  intro s hst
  rw [senderPhase_awaitingAck hst]
  exact ⟨awaitingStep_of_match, awaitingStep_of_noTick, awaitingStep_of_earlyTick⟩

/-! ### The backoff draw (R408, R507, R508) -/

/-- No bound of R508 passes the 26 bits of the backoff counter (R12). -/
theorem drawBound_lt (s : State) : s.drawBound < 2 ^ 26 := by
  have hpow : 2 ^ min s.snd.attempt.toNat Config.kMax ≤ 2 ^ 10 :=
    Nat.pow_le_pow_right (by omega) (Nat.min_le_right _ _)
  have hft : s.ftEff ≤ 65535 := by
    simp only [State.ftEff, State.frameTime, pairValue]
    omega
  calc s.drawBound ≤ (2 ^ 10 - 1) * 65535 := Nat.mul_le_mul (Nat.sub_le_sub_right hpow 1) hft
    _ < 2 ^ 26 := by norm_num

/-- From the first attempt on there is a legal draw. -/
theorem drawBound_pos {s : State} (hattempt : 1 ≤ s.snd.attempt.toNat) : 0 < s.drawBound := by
  have hexp : min s.snd.attempt.toNat Config.kMax ≠ 0 := by simp [Config.kMax]; omega
  exact Nat.mul_pos (Nat.sub_pos_of_lt (Nat.one_lt_two_pow hexp)) (Nat.le_max_right _ _)

theorem drawTicks_lt {s : State} (hpos : 0 < s.drawBound) : s.drawTicks < s.drawBound := Nat.mod_lt _ hpos

/-- A legal DRAW stands as it is (R408). -/
theorem drawTicks_of_legal {s : State} (hlegal : s.now.draw < s.drawBound) : s.drawTicks = s.now.draw :=
  Nat.mod_eq_of_lt hlegal

/-- The backoff counter holds the draw whole. -/
theorem drawTicks_toNat {s : State} (hpos : 0 < s.drawBound) :
    (BitVec.ofNat 26 s.drawTicks).toNat = s.drawTicks := by
  rw [BitVec.toNat_ofNat, Nat.mod_eq_of_lt ((drawTicks_lt hpos).trans (drawBound_lt s))]

/-- Settles O39: the last tick times out, and the count of its backoff is the draw of the cycle. -/
theorem timeoutDrawsInsideTheBound : Obligations.TimeoutDrawsInsideTheBound := by
  unfold Obligations.TimeoutDrawsInsideTheBound
  intro s hst hmatch htick hlast
  refine ⟨BitVec.ofNat 26 s.drawTicks, fun hattempt => ?_, fun hlegal => ?_, ?_⟩
  · have hpos := drawBound_pos hattempt
    rw [drawTicks_toNat hpos]
    exact drawTicks_lt hpos
  · rw [drawTicks_toNat (Nat.zero_lt_of_lt hlegal), drawTicks_of_legal hlegal]
  · rw [senderPhase_awaitingAck hst, awaitingStep_of_lastTick hmatch htick hlast]
    rfl

/-! ### The checksum pass (R462, R502) -/

/-- The state k cycles into the checksum pass of s: the sum of the header and k bytes of TX_BUF, and the pass over
at the latched length. -/
def State.passAfter (s : State) (k : Nat) : State :=
  { s with
    snd := { s.snd with
      csum := s.sendChecksum k
      prepIdx := BitVec.ofNat 8 k
      frameReady := decide (k = s.snd.hdrL.len.toNat) } }

/-- Sending with the pass not begun is the pass after 0 cycles. -/
theorem passAfter_zero {s : State} (hready : s.snd.frameReady = false) (hidx : s.snd.prepIdx = 0)
    (hlen : 1 ≤ s.snd.hdrL.len.toNat) (hcsum : s.snd.csum = s.sendChecksum 0) : s.passAfter 0 = s := by
  have hend : decide (0 = s.snd.hdrL.len.toNat) = s.snd.frameReady := by
    rw [hready]
    exact decide_eq_false (by omega)
  have hbegin : BitVec.ofNat 8 0 = s.snd.prepIdx := hidx.symm
  rw [State.passAfter, hend, ← hcsum, hbegin]

/-- Before the latched length a sender phase takes one byte of TX_BUF more. -/
theorem senderPhase_passAfter {s : State} {k : Nat} (hst : s.snd.st = .sending)
    (hk : k < s.snd.hdrL.len.toNat) : senderPhase (s.passAfter k) = s.passAfter (k + 1) := by
  have hready : (s.passAfter k).snd.frameReady = false := decide_eq_false hk.ne
  have hidx : (BitVec.ofNat 8 k).toNat = k := by
    rw [BitVec.toNat_ofNat]
    omega
  have hsum : s.sendChecksum k + s.txBufByte (BitVec.ofNat 8 k).toNat = s.sendChecksum (k + 1) := by
    rw [hidx, sendChecksum_succ]
  have hnext : BitVec.ofNat 8 k + 1#8 = BitVec.ofNat 8 (k + 1) := (BitVec.ofNat_add k 1).symm
  have hend : (BitVec.ofNat 8 (k + 1) == s.snd.hdrL.len) = decide (k + 1 = s.snd.hdrL.len.toNat) := by
    rw [Bool.eq_iff_iff, beq_iff_eq, decide_eq_true_iff]
    bv_omega
  rw [senderPhase_preparing (s := s.passAfter k) hst hready]
  simp only [State.passAfter, ← hsum, ← hend, ← hnext]
  rfl

/-- The pass cycle by cycle, up to the latched length. -/
theorem senderPhase_iterate_pass {s : State} (hst : s.snd.st = .sending) (hstart : s.passAfter 0 = s) :
    ∀ k, k ≤ s.snd.hdrL.len.toNat → senderPhase^[k] s = s.passAfter k
  | 0, _ => hstart.symm
  | k + 1, hk => by
    rw [Function.iterate_succ_apply', senderPhase_iterate_pass hst hstart k (by omega),
      senderPhase_passAfter hst hk]

/-- Settles O36: after k cycles the pass has taken k bytes, and at the latched length it is over. -/
theorem checksumPassSumsThePayload : Obligations.ChecksumPassSumsThePayload := by
  unfold Obligations.ChecksumPassSumsThePayload
  intro s hst hready hidx hlen hcsum
  have hpass := senderPhase_iterate_pass hst (passAfter_zero hready hidx hlen hcsum)
  refine ⟨fun k hk => ?_, ?_⟩
  · rw [hpass k hk.le]
    exact decide_eq_false hk.ne
  · rw [hpass _ le_rfl]
    simp [State.passAfter]

end Sys2Proof.Machine
end

section
/-! ## The receiver (R550 to R562): the intake, the classes of an inbound frame, RX_RELEASE and RX_ACCEPT -/

namespace Sys2Proof.Machine

/-! ### The classes of a frame under the gate of ENABLE (R551, R553) -/

theorem whenTaking_of_enabled {s : State} (act : State → State) (hen : s.enable = true) :
    whenTaking s act = .next (act s) := if_pos hen

theorem whenTaking_of_disabled {s : State} (act : State → State) (hen : s.enable = false) :
    whenTaking s act = .next s := by
  simp [whenTaking, hen]

/-- Settles O26: both classes are DROP of a state whose match flag is clear. -/
theorem invalidFramesAreDroppedAndCounted : Obligations.InvalidFramesAreDroppedAndCounted := by
  unfold Obligations.InvalidFramesAreDroppedAndCounted
  intro f h p s hen
  exact ⟨whenTaking_of_enabled (fun s => drop .truncatedHeader (noMatch s)) hen,
    whenTaking_of_enabled (fun s => drop .checksumMismatch (noMatch s)) hen⟩

/-- The match of R505: the state and the sequence number, and nothing else of the ack. -/
theorem ackMatches_eq (s : State) (h : Header) :
    s.ackMatches h = decide (s.snd.st = .awaitingAck ∧ h.seq = s.snd.hdrL.seq) := by
  simp [State.ackMatches, Bool.decide_and, beq_eq_decide]

/-- Settles O27: ACK_RX with the match of the same frame. -/
theorem ackFrameIsCountedAndMatched : Obligations.AckFrameIsCountedAndMatched := by
  unfold Obligations.AckFrameIsCountedAndMatched
  intro h s hen
  rw [← ackMatches_eq]
  exact whenTaking_of_enabled (receiveAck h) hen

/-- The row of every class stands under the gate of R551. -/
theorem exec_frameClass_of_disabled {f : List Byte} {i : Instr} (hc : FrameClass f i) {s : State}
    (hen : s.enable = false) : exec i s = .next s := by
  cases hc with
  | trunc | badsum | ack | data =>
    simp only [exec, execRxTrunc, execRxBadsum, execRxAck, execRxData, whenTaking_of_disabled _ hen]

/-- Settles O30: the frame is of one of the four classes. -/
theorem disabledBlockIgnoresFrames : Obligations.DisabledBlockIgnoresFrames := by
  unfold Obligations.DisabledBlockIgnoresFrames
  exact fun f s hen => exec_frameClass_of_disabled (decodeFrame_class f) hen

/-! ### The delivery (R556) -/

/-- RX_DATA with no cause to drop it is DELIVER (R553, R556). -/
theorem exec_rxData_of_deliver {h : Header} {p : List Byte} {s : State} (hen : s.enable = true)
    (hnone : s.dataDrop h p = none) : exec (.rxData h p) s = .next (deliver h p (noMatch s)) := by
  have hnone' : (noMatch s).dataDrop h p = none := hnone
  simp only [exec, execRxData, whenTaking_of_enabled _ hen, receiveData, hnone']

theorem deliver_rxBufByte (h : Header) (p : List Byte) (s : State) {j : Nat} (hj : j < p.length) :
    (deliver h p s).rxBufByte j = p[j] := by
  simp [State.rxBufByte, memGet?_memSetList, hj]

/-- TX_BUF is read at its HOST addresses (R130, R650). -/
theorem read_txBuf (s : State) {i : Nat} (hi : i < 255) :
    s.read (BitVec.ofNat 10 (txBufBase + i)) = s.txBufByte i := by
  have haddr : (BitVec.ofNat 10 (txBufBase + i)).toNat = 0x100 + i := by
    rw [txBufBase, BitVec.toNat_ofNat]
    omega
  rw [read_eq_readHigh s (by omega), haddr, State.readHigh, if_pos (by omega), Nat.add_sub_cancel_left]

/-- Settles O29: with no cause to drop it the frame is delivered; RX_BUF and TX_BUF are read at their HOST addresses. -/
theorem dataFrameIsDelivered : Obligations.DataFrameIsDelivered := by
  unfold Obligations.DataFrameIsDelivered
  intro h p s hen hdest hlen hstrict hfree hslot
  have hnone : s.dataDrop h p = none := (dataDrop_eq_none_iff h p s).2 ⟨hdest, hlen, hstrict, hfree, hslot⟩
  refine ⟨_, exec_rxData_of_deliver hen hnone, deliver_regs .., deliver_cnt .., deliver_ack .., deliver_cyc ..,
    fun j hj => ?_, fun i hi => ?_, deliver_snd .., deliver_eng .., deliver_asm .., deliver_inputs ..,
    deliver_cycle .., deliver_epoch .., deliver_out ..⟩
  · rw [read_rxBuf _ (by omega), deliver_rxBufByte h p _ hj, List.getElem?_eq_getElem hj]
  · rw [read_txBuf _ hi, read_txBuf s hi]
    exact deliver_txBufByte h p (noMatch s) hi

/-! ### The intake with ENABLE = 1 (R550, R552) -/

theorem intake_of_noByte {s : State} (hen : s.enable = true) (hv : s.now.rxTvalid = false) :
    intake s = (s, none) := by
  simp [intake, intakeEnabled, hen, hv]

theorem intake_of_byte {s : State} (hen : s.enable = true) (hv : s.now.rxTvalid = true)
    (hd : s.asm.discard = false) (hl : s.now.rxTlast = false) :
    intake s = ({ s with asm := s.asm.take s.now.rxTdata }, none) := by
  simp [intake, intakeEnabled, hen, hv, hd, hl]

theorem intake_of_lastByte {s : State} (hen : s.enable = true) (hv : s.now.rxTvalid = true)
    (hd : s.asm.discard = false) (hl : s.now.rxTlast = true) :
    let s1 : State := { s with asm := s.asm.take s.now.rxTdata }
    intake s = (s1, some s1.completedFrame) := by
  simp [intake, intakeEnabled, hen, hv, hd, hl]

theorem intake_of_skippedByte {s : State} (hen : s.enable = true) (hv : s.now.rxTvalid = true)
    (hd : s.asm.discard = true) (hl : s.now.rxTlast = false) : intake s = (s, none) := by
  simp [intake, intakeEnabled, hen, hv, hd, hl]

theorem intake_of_discardEnd {s : State} (hen : s.enable = true) (hv : s.now.rxTvalid = true)
    (hd : s.asm.discard = true) (hl : s.now.rxTlast = true) :
    intake s = ({ s with asm := { s.asm with discard := false } }, none) := by
  simp [intake, intakeEnabled, hen, hv, hd, hl]

theorem receivePhase_of_none {s s1 : State} (h : intake s = (s1, none)) : receivePhase s = .next s1 := by
  simp only [receivePhase, h]

theorem receivePhase_of_some {s s1 : State} {i : Instr} (h : intake s = (s1, some i)) :
    receivePhase s = andThen (exec i s1) fun s2 => .next (closeFrame s2) := by
  simp only [receivePhase, h]

/-- Settles O46: P3 after each case of the intake. -/
theorem receivePhaseRunsTheCompletedFrame : Obligations.ReceivePhaseRunsTheCompletedFrame := by
  unfold Obligations.ReceivePhaseRunsTheCompletedFrame
  exact fun s hen =>
    ⟨fun hv hd hl => receivePhase_of_some (intake_of_lastByte hen hv hd hl),
      fun hv hd hl => receivePhase_of_none (intake_of_byte hen hv hd hl),
      fun hv hd hl => receivePhase_of_none (intake_of_discardEnd hen hv hd hl),
      fun hv hd hl => receivePhase_of_none (intake_of_skippedByte hen hv hd hl),
      fun hv => receivePhase_of_none (intake_of_noByte hen hv)⟩

/-! ### The intake with ENABLE = 0 (R551) -/

/-- Settles O42: the assembler is emptied, and the byte of the cycle or a frame begun decides the discard. -/
theorem disabledIntakeDiscards : Obligations.DisabledIntakeDiscards := by
  unfold Obligations.DisabledIntakeDiscards
  intro s hen
  have hintake : intake s = (intakeDisabled s, none) := by simp [intake, hen]
  rw [hintake]
  refine ⟨fun hv hl => ?_, fun hv hl => ?_, fun hv hn => ?_, fun hv hn => ?_⟩
  · simp [intakeDisabled, Assembler.clear, hv, hl]
  · simp [intakeDisabled, Assembler.clear, hv, hl]
  · have hpos : 0 < s.asm.n.toNat := by bv_omega
    simp [intakeDisabled, Assembler.clear, hv, hpos]
  · simp [intakeDisabled, Assembler.clear, hv, hn]

/-! ### What the receive path leaves alone (R562) -/

/-- No class of inbound frame writes a register but the RX ones. -/
theorem FrameActed.regs_eq {s u : State} (h : FrameActed s u) :
    u.regs =
      { s.regs with
        rxValid := u.regs.rxValid, rxAcked := u.regs.rxAcked, rxLenmm := u.regs.rxLenmm
        rxHdr := u.regs.rxHdr, rxCount := u.regs.rxCount, rxDropCode := u.regs.rxDropCode } := by
  cases h with
  | none | dropped _ | acked _ => rfl
  | delivered h p _ =>
    rw [deliver_regs]
    rfl

/-- Only an ack received in AwaitingAck raises the match flag (R505). -/
theorem FrameActed.st_of_match {s u : State} (h : FrameActed s u) (hmatch : u.cyc.ackMatch = true)
    (hno : s.cyc.ackMatch = false) : s.snd.st = .awaitingAck := by
  cases h with
  | none => simp [hno] at hmatch
  | dropped _ => simp at hmatch
  | acked h =>
    rw [receiveAck_cyc, ackMatches_eq] at hmatch
    exact (of_decide_eq_true hmatch).1
  | delivered h p _ => simp at hmatch

/-- P3 raises the match flag only with the tlast byte of a frame, in AwaitingAck (R505). -/
theorem receivePhase_match {s t : State} (h : receivePhase s = .next t) (hmatch : t.cyc.ackMatch = true)
    (hno : s.cyc.ackMatch = false) :
    s.snd.st = .awaitingAck ∧ s.enable = true ∧ s.now.rxTvalid = true ∧ s.now.rxTlast = true := by
  cases hin : intake s with
  | mk s1 i? =>
    cases i? with
    | none =>
      obtain rfl : s1 = t := by simpa [receivePhase_of_none hin] using h
      have hcyc : s1.cyc = s.cyc := by simpa [hin] using congrArg State.cyc (intake_keeps s)
      simp [hcyc, hno] at hmatch
    | some i =>
      obtain ⟨hen, hv, hl, -, hs1, rfl⟩ := intake_completes hin
      obtain ⟨u, hexec, hacted⟩ := exec_completedFrame s1 (by rw [hs1]; exact hen)
      obtain rfl : closeFrame u = t := by simpa [receivePhase_of_some hin, hexec] using h
      rw [hs1] at hacted
      exact ⟨hacted.st_of_match hmatch hno, hen, hv, hl⟩

theorem receivePhase_regs {s t : State} (h : receivePhase s = .next t) :
    t.regs =
      { s.regs with
        rxValid := t.regs.rxValid, rxAcked := t.regs.rxAcked, rxLenmm := t.regs.rxLenmm
        rxHdr := t.regs.rxHdr, rxCount := t.regs.rxCount, rxDropCode := t.regs.rxDropCode } := by
  obtain ⟨a, u, b, heq, -, hacted, -⟩ := receivePhase_cases s
  obtain rfl : { u with asm := b } = t := by simpa [heq] using h
  exact hacted.regs_eq

/-- Settles O43: what each class leaves alone, and the one way the match flag rises. -/
theorem receivePhaseKeepsTheSender : Obligations.ReceivePhaseKeepsTheSender := by
  unfold Obligations.ReceivePhaseKeepsTheSender
  intro s t h
  have honly := receivePhase_receiverOnly h
  have hkeeps := receivePhase_keepsCycle h
  obtain ⟨hframe, hnow⟩ := receivePhase_sameFrame h
  exact ⟨honly.snd, honly.eng, receivePhase_regs h, honly.txDone, hkeeps.w1c, hframe.buf, hkeeps.inputs,
    hkeeps.cycle, hnow, receivePhase_match h⟩

/-! ### RX_RELEASE (R558) and RX_ACCEPT (R559) -/

theorem exec_rxRelease_of_held {s : State} (hheld : s.regs.rxValid = true) :
    exec .rxRelease s = .next (releaseFrame s) := by
  simp [exec, execRxRelease, hheld]

theorem exec_rxRelease_of_noFrame {s : State} (hfree : s.regs.rxValid = false) :
    exec .rxRelease s = .next (cmdErr .noFrame s) := if_pos hfree

/-- Settles O24: the held frame decides. -/
theorem releaseFreesTheHeldFrame : Obligations.ReleaseFreesTheHeldFrame := by
  unfold Obligations.ReleaseFreesTheHeldFrame
  exact fun s => ⟨exec_rxRelease_of_held, exec_rxRelease_of_noFrame⟩

theorem exec_rxAccept_of_noFrame {s : State} (hfree : s.regs.rxValid = false) :
    exec .rxAccept s = .next (cmdErr .noFrame s) := if_pos hfree

theorem exec_rxAccept_of_acked {s : State} (hheld : s.regs.rxValid = true) (hacked : s.regs.rxAcked = true) :
    exec .rxAccept s = .next (releaseFrame s) := by
  simp [exec, execRxAccept, hheld, hacked]

theorem exec_rxAccept_of_disabled {s : State} (hheld : s.regs.rxValid = true) (hacked : s.regs.rxAcked = false)
    (hen : s.enable = false) : exec .rxAccept s = .next (cmdErr .disabled s) := by
  simp [exec, execRxAccept, hheld, hacked, hen]

theorem exec_rxAccept_of_busy {s : State} (hheld : s.regs.rxValid = true) (hacked : s.regs.rxAcked = false)
    (hen : s.enable = true) (hpend : s.ack.pend = true) : exec .rxAccept s = .next (cmdErr .busy s) := by
  simp [exec, execRxAccept, hheld, hacked, hen, hpend]

theorem exec_rxAccept_of_accepted {s : State} (hheld : s.regs.rxValid = true) (hacked : s.regs.rxAcked = false)
    (hen : s.enable = true) (hpend : s.ack.pend = false) :
    exec .rxAccept s =
      .next (releaseFrame (postAck s.regs.rxHdr.mcs s.regs.rxHdr.seq s.regs.rxHdr.src s)) := by
  simp [exec, execRxAccept, hheld, hacked, hen, hpend]

/-- Settles O25: each test of the rule after the earlier ones. -/
theorem acceptPostsTheAckAndFrees : Obligations.AcceptPostsTheAckAndFrees := by
  unfold Obligations.AcceptPostsTheAckAndFrees
  exact fun s => ⟨exec_rxAccept_of_accepted, exec_rxAccept_of_acked, exec_rxAccept_of_noFrame,
    exec_rxAccept_of_disabled, exec_rxAccept_of_busy⟩

end Sys2Proof.Machine
end

section
/-! ## The output engine and the arbiter's loads (R602 to R605) -/

namespace Sys2Proof.Machine

/-! ### The two outbound rows under the arbiter's test (R603) -/

theorem exec_txAckFrame_of_granted {s : State} (h : s.arbiter = some .ack) :
    exec .txAckFrame s = .next (loadAck s) := if_pos h

theorem exec_txAckFrame_of_not_granted {s : State} (h : s.arbiter ≠ some .ack) :
    exec .txAckFrame s = .next s := if_neg h

theorem exec_txDataFrame_of_granted {s : State} (h : s.arbiter = some .data) :
    exec .txDataFrame s = .next (loadData s) := if_pos h

theorem exec_txDataFrame_of_not_granted {s : State} (h : s.arbiter ≠ some .data) :
    exec .txDataFrame s = .next s := if_neg h

/-- The header of an ack, its checksum the sum of R604 with the three sentinel bytes. -/
theorem ackHeader_eq (s : State) :
    s.ackHeader =
      { mcs := s.ack.mcs
        len := 0x03#8
        seq := s.ack.seq
        dest := s.ack.dest
        src := s.regs.nodeAddr
        cksum := BitVec.ofNat 8 (s.ack.mcs.toNat + 3 + s.ack.seq.toNat + s.ack.dest.toNat +
          s.regs.nodeAddr.toNat + 0x41 + 0x43 + 0x4B) } := by
  rw [State.ackHeader, checksum_ack]

/-- Settles O31: LOAD_ACK where the arbiter grants an ack, and the same state where it does not. -/
theorem ackFrameIsLoadedWhenGranted : Obligations.AckFrameIsLoadedWhenGranted := by
  unfold Obligations.AckFrameIsLoadedWhenGranted
  intro s
  refine ⟨fun hidle hen herr hack => ?_, fun hnot => ?_⟩
  · have hgrant : s.arbiter = some .ack := (arbiter_eq_ack_iff s).2 ⟨hidle, hen, herr, hack⟩
    rw [exec_txAckFrame_of_granted hgrant, loadAck, ackHeader_eq]
  · exact exec_txAckFrame_of_not_granted (mt (arbiter_eq_ack_iff s).1 hnot)

/-- Settles O32: LOAD_DATA where the arbiter grants a data frame, and the same state where it does not. -/
theorem dataFrameIsLoadedWhenGranted : Obligations.DataFrameIsLoadedWhenGranted := by
  unfold Obligations.DataFrameIsLoadedWhenGranted
  exact fun s => ⟨fun hready => exec_txDataFrame_of_granted ((arbiter_eq_data_iff s).2 hready),
    fun hnot => exec_txDataFrame_of_not_granted (mt (arbiter_eq_data_iff s).1 hnot)⟩

/-! ### The handshake (R602) -/

theorem engineAtLast_iff (s : State) : s.engineAtLast = true ↔ s.eng.idx.toNat = s.eng.plen.toNat + 5 :=
  beq_iff_eq

theorem handshake_of_no_transfer {s : State} (h : s.eng.busy = false ∨ s.now.txTready = false) :
    handshake s = s := by
  refine if_neg fun ⟨hbusy, hready⟩ => ?_
  rcases h with hidle | hwait
  · simp [hidle] at hbusy
  · simp [hwait] at hready

theorem handshake_of_transfer {s : State} (hbusy : s.eng.busy = true) (hready : s.now.txTready = true) :
    handshake s =
      if s.engineAtLast then finishFrame s else { s with eng := { s.eng with idx := s.eng.idx + 1 } } :=
  if_pos ⟨hbusy, hready⟩

theorem handshake_of_middle_byte {s : State} (hbusy : s.eng.busy = true) (hready : s.now.txTready = true)
    (hmid : s.eng.idx.toNat ≠ s.eng.plen.toNat + 5) :
    handshake s = { s with eng := { s.eng with idx := s.eng.idx + 1 } } := by
  rw [handshake_of_transfer hbusy hready, if_neg (mt (engineAtLast_iff s).1 hmid)]

theorem handshake_of_last_byte {s : State} (hbusy : s.eng.busy = true) (hready : s.now.txTready = true)
    (hlast : s.eng.idx.toNat = s.eng.plen.toNat + 5) : handshake s = finishFrame s := by
  rw [handshake_of_transfer hbusy hready, if_pos ((engineAtLast_iff s).2 hlast)]

theorem finishFrame_of_data {s : State} (hkind : s.eng.kind = .data) :
    finishFrame s =
      { s with
        eng := { s.eng with busy := false, idx := 0 }
        cnt := { s.cnt with txData := s.cnt.txData + 1#8 }
        cyc := { s.cyc with txDone := some .data } } := by
  simp [finishFrame, hkind]

/-- The end of an ack also raises ACK_SENT, bit 7 of the set mask. -/
theorem finishFrame_of_ack {s : State} (hkind : s.eng.kind = .ack) :
    finishFrame s =
      { s with
        eng := { s.eng with busy := false, idx := 0 }
        cnt := { s.cnt with txAck := s.cnt.txAck + 1#8 }
        cyc := { s.cyc with txDone := some .ack, setmask := s.cyc.setmask ||| 0x80#8 } } := by
  simp only [finishFrame, hkind]
  rfl

/-- Settles O33: no transfer, a byte before the last, and the last byte of either kind of frame. -/
theorem handshakeMovesOneByte : Obligations.HandshakeMovesOneByte := by
  unfold Obligations.HandshakeMovesOneByte
  intro s
  refine ⟨handshake_of_no_transfer, handshake_of_middle_byte, fun hbusy hready hlast hkind => ?_,
    fun hbusy hready hlast hkind => ?_⟩
  · rw [handshake_of_last_byte hbusy hready hlast, finishFrame_of_data hkind]
  · rw [handshake_of_last_byte hbusy hready hlast, finishFrame_of_ack hkind]

end Sys2Proof.Machine
end

section
/-! ## The read map of the HOST space (R650, R201, R322) -/

namespace Sys2Proof.Machine

/-- Registers and buffers leave these addresses unassigned (R104, R322). -/
theorem read_reserved (s : State) {a : Addr} (ha : (0x01D ≤ a.toNat ∧ a.toNat ≤ 0x01F) ∨
    (0x029 ≤ a.toNat ∧ a.toNat ≤ 0x0FF) ∨ a.toNat = 0x1FF ∨ 0x2FF ≤ a.toNat) : s.read a = 0x00#8 := by
  have htx : ¬(0x100 ≤ a.toNat ∧ a.toNat ≤ 0x1FE) := by omega
  have hrx : ¬(0x200 ≤ a.toNat ∧ a.toNat ≤ 0x2FE) := by omega
  unfold State.read
  split
  case h_39 => rw [State.readHigh, if_neg htx, if_neg hrx]
  all_goals omega

/-- Settles O9: each register address evaluates to its register; the buffers and the reserved addresses by range. -/
theorem readMapOfTheHostSpace : Obligations.ReadMapOfTheHostSpace := by
  unfold Obligations.ReadMapOfTheHostSpace
  intro s
  iterate 38 refine ⟨rfl, ?_⟩
  exact ⟨fun _ => read_txBuf s, fun _ => read_rxBuf s, fun _ => read_reserved s⟩

/-- Settles O11: RD writes the read port's sample and nothing else. -/
theorem readShowsTheByteAndKeepsTheBlock : Obligations.ReadShowsTheByteAndKeepsTheBlock := by
  unfold Obligations.ReadShowsTheByteAndKeepsTheBlock
  exact fun _ _ => rfl

end Sys2Proof.Machine
end

section
/-! ## The host's writes (R652 to R658) -/

namespace Sys2Proof.Machine

/-! ### WR_CTRL (R652) -/

theorem exec_wrCtrl_of_stored {v : Byte} {s : State} (h : ¬(s.enable = true ∧ v.getLsbD 0 = false)) :
    exec (.wrCtrl v) s = .next { s with regs := { s.regs with ctrl := v &&& 0x07#8 } } := if_neg h

/-- Clearing ENABLE is ABORT on the state with CTRL stored and the ack slot emptied (R513). -/
theorem exec_wrCtrl_of_disabled {v : Byte} {s : State} (hen : s.enable = true) (hv : v.getLsbD 0 = false) :
    exec (.wrCtrl v) s = exec .abort
      { s with regs := { s.regs with ctrl := v &&& 0x07#8 }, ack := { s.ack with pend := false } } :=
  if_pos ⟨hen, hv⟩

/-- Settles O12: the store alone, or the store followed by the three cases of ABORT. -/
theorem controlWriteStoresAndDisables : Obligations.ControlWriteStoresAndDisables := by
  unfold Obligations.ControlWriteStoresAndDisables
  intro v s stored emptied
  obtain ⟨hinactive, hstreams, hfails⟩ := abortEndsOrMarksTheSend { s with regs := stored, ack := emptied }
  refine ⟨exec_wrCtrl_of_stored, fun hen hv hst => ?_, fun hen hv hst hstart hbusy hkind => ?_,
    fun hen hv hst => ?_⟩ <;> rw [exec_wrCtrl_of_disabled hen hv]
  · exact hinactive hst
  · exact hstreams hst hstart hbusy hkind
  · exact hfails hst

/-! ### The registers no state locks (R655 to R658) -/

/-- Settles O13: each row is one store. -/
theorem unlockedRegisterWritesTakeTheByte : Obligations.UnlockedRegisterWritesTakeTheByte := by
  unfold Obligations.UnlockedRegisterWritesTakeTheByte
  exact fun _ _ => ⟨rfl, rfl, rfl, rfl, rfl, rfl⟩

/-- Settles O14: each row stores 0 in its own counter. -/
theorem counterWritesClearTheirCounter : Obligations.CounterWritesClearTheirCounter := by
  unfold Obligations.CounterWritesClearTheirCounter
  exact fun _ _ => ⟨rfl, rfl, rfl, rfl, rfl, rfl, rfl, rfl, rfl⟩

/-! ### The locked registers (R653, R654) -/

theorem exec_wrNodeAddr_of_disabled (v : Byte) {s : State} (hen : s.enable = false) :
    exec (.wrNodeAddr v) s = .next { s with regs := { s.regs with nodeAddr := v } } := by
  simp [exec, execWrNodeAddr, hen]

theorem exec_wrNodeAddr_of_enabled (v : Byte) {s : State} (hen : s.enable = true) :
    exec (.wrNodeAddr v) s = .next (cmdErr .lockedWrite s) := if_pos hen

/-- Settles O15: ENABLE decides. -/
theorem nodeAddressWriteObeysItsLock : Obligations.NodeAddressWriteObeysItsLock := by
  unfold Obligations.NodeAddressWriteObeysItsLock
  exact fun v _ => ⟨exec_wrNodeAddr_of_disabled v, exec_wrNodeAddr_of_enabled v⟩

theorem txLocked_of_idle {s : State} (store : State → State) (hst : s.snd.st = .idle) :
    txLocked s store = .next (store s) := if_neg (not_not_intro hst)

theorem txLocked_of_not_idle {s : State} (store : State → State) (hst : s.snd.st ≠ .idle) :
    txLocked s store = .next (cmdErr .lockedWrite s) := if_pos hst

theorem exec_wrTxMcs (v : Byte) (s : State) :
    exec (.wrTxMcs v) s = txLocked s fun s => { s with regs := { s.regs with txMcs := v } } := rfl

theorem exec_wrTxDest (v : Byte) (s : State) :
    exec (.wrTxDest v) s = txLocked s fun s => { s with regs := { s.regs with txDest := v } } := rfl

theorem exec_wrTxLen (v : Byte) (s : State) :
    exec (.wrTxLen v) s = txLocked s fun s => { s with regs := { s.regs with txLen := v } } := rfl

/-- Settles O16: all three rows stand under the one lock. -/
theorem txRegisterWritesObeyTheirLock : Obligations.TxRegisterWritesObeyTheirLock := by
  unfold Obligations.TxRegisterWritesObeyTheirLock
  refine fun v s => ⟨fun hst => ⟨?_, ?_, ?_⟩, fun hst i hi => ?_⟩
  · rw [exec_wrTxMcs, txLocked_of_idle _ hst]
  · rw [exec_wrTxDest, txLocked_of_idle _ hst]
  · rw [exec_wrTxLen, txLocked_of_idle _ hst]
  · have hrefused : exec i s = .next (cmdErr .lockedWrite s) := by
      rcases hi with rfl | rfl | rfl
      · rw [exec_wrTxMcs, txLocked_of_not_idle _ hst]
      · rw [exec_wrTxDest, txLocked_of_not_idle _ hst]
      · rw [exec_wrTxLen, txLocked_of_not_idle _ hst]
    exact hrefused

/-! ### WR_TX_BUF (R654) -/

theorem exec_wrTxBuf_of_lt {idx : Byte} (v : Byte) (s : State) (hidx : idx.toNat < 255) :
    exec (.wrTxBuf idx v) s = txLocked s fun s => setTxBuf s idx.toNat v :=
  if_neg fun h => by simp [h] at hidx

theorem setTxBuf_txBufByte_same (s : State) (i : Nat) (v : Byte) : (setTxBuf s i v).txBufByte i = v := by
  simp [State.txBufByte]

theorem setTxBuf_txBufByte_other (s : State) {i j : Nat} (v : Byte) (hne : j ≠ i) :
    (setTxBuf s i v).txBufByte j = s.txBufByte j := by
  have hplace : txBufBase + j ≠ txBufBase + i := by omega
  simp [State.txBufByte, memGet?_memSet_other _ _ _ _ hplace]

/-- The storage shows at the addresses above the registers only (R650). -/
theorem read_of_readHigh_eq (s : State) (m : Memory) {a : Addr}
    (hhigh : { s with mem := m }.readHigh a.toNat = s.readHigh a.toNat) :
    { s with mem := m }.read a = s.read a := by
  unfold State.read
  split
  case h_39 => exact hhigh
  all_goals rfl

/-- The write of one byte of TX_BUF shows at that byte's HOST address only (R201). -/
theorem read_setTxBuf_other (s : State) (idx v : Byte) {a : Addr} (ha : a.toNat ≠ txBufBase + idx.toNat) :
    (setTxBuf s idx.toNat v).read a = s.read a := by
  refine read_of_readHigh_eq s _ ?_
  rw [State.readHigh, State.readHigh]
  split_ifs with htx
  · refine setTxBuf_txBufByte_other s v fun hidx => ha ?_
    rw [txBufBase]
    omega
  · exact setTxBuf_rxBufByte s idx v _
  · rfl

/-- Settles O17: the store of one byte under the lock, read back at its address and nowhere else. -/
theorem txBufferWriteStoresOneByte : Obligations.TxBufferWriteStoresOneByte := by
  unfold Obligations.TxBufferWriteStoresOneByte
  refine fun idx v s => ⟨fun hidx hst => ?_, fun hidx hst => ?_, fun hidx => ?_⟩
  · refine ⟨setTxBuf s idx.toNat v, ?_, rfl, ?_, fun a => read_setTxBuf_other s idx v⟩
    · rw [exec_wrTxBuf_of_lt v s hidx, txLocked_of_idle _ hst]
    · rw [read_txBuf _ hidx, setTxBuf_txBufByte_same]
  · rw [exec_wrTxBuf_of_lt v s hidx, txLocked_of_not_idle _ hst]
    rfl
  · exact if_pos (byte_eq_of_toNat hidx)

end Sys2Proof.Machine
end

section
/-! ## NOP, the illegal command and SOFT_RESET (R660 to R662), and the ignored writes (R651, R322) -/

namespace Sys2Proof.Machine

/-! ### NOP, the ignored writes and the unassigned codes -/

/-- Settles O18: no effect; the words of the row are those at the addresses no other write row takes. -/
theorem nopAndIgnoredWritesChangeNothing : Obligations.NopAndIgnoredWritesChangeNothing := by
  unfold Obligations.NopAndIgnoredWritesChangeNothing
  refine ⟨by decide, fun _ => rfl, fun _ _ _ => rfl, fun a v ha => ?_⟩
  have hignored : isIgnoredAddr a = true := by
    rw [isIgnoredAddr_iff]
    simp only [writableRegs, List.mem_cons, List.not_mem_nil, or_false] at ha ⊢
    omega
  rw [decodeBus_write, decodeWrite_ignored v hignored]

/-- Settles O19: a write to CMD decodes by its code, and the illegal command is CMD_ERR alone. -/
theorem illegalCommandRaisesOnlyItsError : Obligations.IllegalCommandRaisesOnlyItsError := by
  unfold Obligations.IllegalCommandRaisesOnlyItsError
  refine ⟨fun c hc => ?_, fun _ _ => rfl⟩
  have hillegal : isIllegalCode c = true := by
    simp only [isIllegalCode, assignedCodes, Bool.not_eq_true', List.contains_eq_mem, decide_eq_false_iff_not,
      List.mem_cons, List.not_mem_nil, or_false]
    omega
  rw [decodeBus_write]
  exact decodeCmd_illegal hillegal

/-! ### SOFT_RESET -/

/-- Settles O20: SOFT_RESET is the reset of the block. -/
theorem softResetGivesTheResetState : Obligations.SoftResetGivesTheResetState := by
  unfold Obligations.SoftResetGivesTheResetState
  exact fun s => ⟨hwReset s, rfl, hwReset_regs s, hwReset_cnt s, hwReset_snd s, hwReset_ack s, hwReset_eng s,
    hwReset_asm s, hwReset_mem s, hwReset_cyc s, hwReset_inputs s⟩

/-- A cycle that ends in a reset keeps only the pins to come, the cycle count and the ports' sample. -/
theorem endCycle_hwReset_congr {s t : State} (hin : t.inputs.tail = s.inputs.tail) (hcycle : t.cycle = s.cycle)
    (hout : t.out = s.out) : endCycle (hwReset t) = endCycle (hwReset s) := by
  simp only [endCycle, hwReset, hin, hcycle, hout]

/-- Of the pins, the ports' sample sees the bus address alone (R402, R411). -/
theorem startCycle_out_congr (s : State) (ps : List Pins)
    (haddr : { s with inputs := ps }.now.busAddr = s.now.busAddr) :
    (startCycle { s with inputs := ps }).out = (startCycle s).out := by
  simp only [startCycle, haddr]
  rfl

theorem step_of_reset {s : State} (hrst : s.now.rst = true) :
    step s = .next (endCycle (hwReset (startCycle s))) := by
  simp only [step, hrst, if_true, resetCycle, exec_rd_beginCycle, andThen_next]

/-- P2 to P5 leave nothing behind that SOFT_RESET in P6 would keep (R662). -/
theorem step_of_softReset {s : State} (hrst : s.now.rst = false) (hwrite : s.hostWrite? = some .softReset) :
    step s = .next (endCycle (hwReset (startCycle s))) := by
  obtain ⟨_, u, b, hrecv, -, -, -⟩ := receivePhase_cases (transportPhase (startCycle s))
  have hkeeps := startCycle_keepsCycle hrecv
  rw [step_of_no_reset hrst, afterHost_eq, hrecv, hwrite]
  exact congrArg Host.Outcome.next
    (endCycle_hwReset_congr (congrArg List.tail hkeeps.inputs) hkeeps.cycle hkeeps.out)

/-- Settles O50: both cycles end as a reset of the started cycle, and rst is none of the pins its ports show. -/
theorem softResetCycleEqualsReset : Obligations.SoftResetCycleEqualsReset := by
  unfold Obligations.SoftResetCycleEqualsReset
  intro s p rest hin hrst hwe haddr hdata
  have hnow : s.now = p := now_of_inputs hin
  have hwrite : s.hostWrite? = some .softReset := by
    rw [hostWrite?_of_write (by rw [hnow, hwe]), hnow, haddr, hdata]
    rfl
  rw [step_of_softReset (by rw [hnow, hrst]) hwrite, step_of_reset rfl]
  have hports := startCycle_out_congr s ({ p with rst := true } :: rest) (congrArg Pins.busAddr hnow).symm
  have htail : s.inputs.tail = rest := by rw [hin, List.tail_cons]
  exact congrArg Host.Outcome.next (endCycle_hwReset_congr htail rfl hports.symm)

end Sys2Proof.Machine
end

section
/-! ## No fault and no refusal (R707): every instruction, every phase and every cycle answers -/

namespace Sys2Proof.Machine

/-- The result is a next state: no fault and no refusal. -/
def Answers (r : Result) : Prop := ∃ t, r = .next t

namespace Answers

theorem next (s : State) : Answers (.next s) := ⟨s, rfl⟩

theorem ite {c : Prop} [Decidable c] {a b : Result} (ha : Answers a) (hb : Answers b) :
    Answers (if c then a else b) := by
  split
  · exact ha
  · exact hb

theorem andThen {r : Result} {f : State → Result} (hr : Answers r) (hf : ∀ s, Answers (f s)) :
    Answers (andThen r f) := by
  obtain ⟨s, rfl⟩ := hr
  exact hf s

end Answers

/-! ### The rows and the phases -/

/-- Every row answers on every state: its locks, gates and checks choose between next states only. -/
theorem exec_answers (i : Instr) (s : State) : Answers (exec i s) := by
  cases i with
  | wrCtrl _ | wrNodeAddr _ | wrTxMcs _ | wrTxDest _ | wrTxLen _ | rxTrunc _ | rxBadsum _ _ | rxAck _
  | rxData _ _ | rxRelease | txDataFrame | txAckFrame => exact .ite (.next _) (.next _)
  | wrTxBuf _ _ => exact .ite (.next _) (.ite (.next _) (.next _))
  | send | rxAccept => exact .ite (.next _) (.ite (.next _) (.ite (.next _) (.ite (.next _) (.next _))))
  | rd _ | wrStatus _ | wrIrqEn _ | wrAckTimeoutLo _ | wrAckTimeoutHi _ | wrFrameTimeLo _ | wrFrameTimeHi _
  | wrCntTxData _ | wrCntTxAck _ | wrCntRxDeliv _ | wrCntRxCksum _ | wrCntRxTrunc _ | wrCntRxFilt _
  | wrCntRxOverrun _ | wrCntTimeout _ | wrCntRxAck _ | nop | abort | softReset | cmdIllegal _
  | wrIgnored _ _ => exact .next _

theorem runOpt_answers (i? : Option Instr) (s : State) : Answers (runOpt i? s) := by
  cases i? with
  | none => exact .next s
  | some i => exact exec_answers i s

theorem receivePhase_answers (s : State) : Answers (receivePhase s) := by
  obtain ⟨_, u, b, hnext, -⟩ := receivePhase_cases s
  exact ⟨{ u with asm := b }, hnext⟩

theorem afterHost_answers (s : State) : Answers (afterHost s) := by
  rw [afterHost_eq]
  exact (receivePhase_answers _).andThen fun s3 => runOpt_answers _ (beforeWrite s3)

/-- Settles O47: a reset cycle always answers; without reset, the receive phase and the host's write do, and the
other phases are functions of the state. -/
theorem everyStateHasANextState : Obligations.EveryStateHasANextState := by
  unfold Obligations.EveryStateHasANextState
  intro s
  cases hrst : s.now.rst with
  | true => exact ⟨_, step_of_reset hrst⟩
  | false =>
    rw [step_of_no_reset hrst]
    exact (afterHost_answers s).andThen fun s6 => .next (endCycle s6)

end Sys2Proof.Machine
end

section
/-! ## A cycle with rst = 1 (R800, R801) -/

namespace Sys2Proof.Machine

/-- A reset leaves no event and no clear, so the finalisation of STATUS leaves the reset block alone (R406). -/
theorem endCycle_hwReset_sameReceiver (s : State) : SameReceiver (hwReset s) (endCycle (hwReset s)) :=
  .endCycle (hwReset_cyc s)

/-- Settles O49: the cycle ends as the reset of the started cycle, so the fields are those of the reset block; ID and
VERSION are the first two addresses of the read map. -/
theorem resetCycleGivesTheResetState : Obligations.ResetCycleGivesTheResetState := by
  unfold Obligations.ResetCycleGivesTheResetState
  intro s hrst
  have hkept := endCycle_hwReset_sameReceiver (startCycle s)
  obtain ⟨hid, hversion, -⟩ := readMapOfTheHostSpace (endCycle (hwReset (startCycle s)))
  exact ⟨_, step_of_reset hrst, hkept.regs.trans (hwReset_regs _), hkept.cnt.trans (hwReset_cnt _),
    hkept.snd.trans (hwReset_snd _), hkept.ack.trans (hwReset_ack _), hkept.eng.trans (hwReset_eng _),
    (endCycle_asm _).trans (hwReset_asm _), hkept.mem.trans (hwReset_mem _), endCycle_cyc _, hid, hversion,
    endCycle_inputs _⟩

end Sys2Proof.Machine
end
